-- ==== Sys2Proof/Word.lean ====
section
/-! DEFINITION. The word types and their plainest arithmetic (00_scope.md R9, R15). -/

namespace Sys2Proof

/-- An 8-bit value: a register half, the flag byte, a memory byte (R9). -/
abbrev Byte := BitVec 8

/-- A 16-bit value: a register pair, an index register, SP, PC, a memory address, a port address (R9-R11). -/
abbrev Word := BitVec 16

/-- The high byte `w[15:8]` (R15). -/
def hiByte (w : Word) : Byte := w.extractLsb' 8 8

/-- The low byte `w[7:0]` (R15). -/
def loByte (w : Word) : Byte := w.extractLsb' 0 8

/-- The concatenation `hi:lo` (R15). -/
def mkWord (hi lo : Byte) : Word := hi ++ lo

end Sys2Proof
end

