-- ==== Sys2Proof/Config.lean ====
section
/-! DEFINITION. What is fixed for the machine, and its free values (00_scope.md R12). -/

namespace Sys2Proof.Config

/-- The cost of a DD/FD prefix that falls back (R12, R113, D19). -/
def prefixFallbackCycles : Nat := 4

/-- The cost of a halted step, "the NOP-equivalent cost" (R100, R482). -/
def haltedCycles : Nat := 4

/-- Whether the DDCB/FDCB rotates, shifts, SET and RES copy their result into register r (R12, R312, D20). -/
def ixcbCopyToRegister : Bool := true

/-- The non-maskable interrupt vector (R88, R436). -/
def nmiVector : Word := 0x0066

/-- The IM 1 vector (R88, R439). -/
def im1Vector : Word := 0x0038

/-- The byte a host passes to an acceptance when the device has none, the open-bus value (R433, D17). -/
def openBus : Byte := 0xFF

/-- The address a snapshot's RAM image starts at (R89, R93). -/
def snapshotBase : Word := 0x4000

/-- FREE VALUE, log entry 3: what the port device answers to the `k`-th draw, a read of port `p` (R95, D4). -/
opaque portIn : Nat → Word → Byte

/-- FREE VALUE, log entry 4: the draw `bit_hl_undoc`, whose bits 5 and 3 are F5 and F3 after `BIT b,(HL)`,
as the `k`-th draw (R12, R309, D21). -/
opaque bitHlUndoc : Nat → Byte

end Sys2Proof.Config
end

