-- ==== Sys2Proof/Syntax.lean ====
section
/-! DEFINITION. The instruction syntax: one constructor per row of opcode_table.json (30_encoding.md R129). -/

namespace Sys2Proof

/-- The 8-bit registers of the register code (R106); code 6, `(HL)`, has constructors of its own. -/
inductive Reg8
  | b | c | d | e | h | l | a
  deriving DecidableEq, Repr

/-- The pair code rp (R107). -/
inductive RegPair
  | bc | de | hl | sp
  deriving DecidableEq, Repr

/-- The pair code rp2 of PUSH and POP (R107). -/
inductive StackPair
  | bc | de | hl | af
  deriving DecidableEq, Repr

/-- The condition code (R108). -/
inductive Cond
  | nz | z | nc | c | po | pe | p | m
  deriving DecidableEq, Repr

/-- The index register that a DD (IX) or FD (IY) prefix selects, "X" in the rules (R112). -/
inductive Idx
  | ix | iy
  deriving DecidableEq, Repr

/-- A bit number of BIT, SET and RES, or the number y of RST: 0 to 7 (R22, R126). -/
inductive Index8
  | i0 | i1 | i2 | i3 | i4 | i5 | i6 | i7
  deriving DecidableEq, Repr

/-- The instructions. An `M` in a name marks a memory operand, `Xd` the operand `(X+d)`, `XH` and `XL` the halves of
X. Operands: `n` an immediate byte, `nn` an immediate word, `d` and `e` displacement bytes, `r` a destination and `q` a
source (or copy target) register, `b` a bit number, `y` the field of RST. -/
inductive Instr
  /-- NOP (R392, base space). -/
  | nop
  /-- LD rp,nn (R215, base space). -/
  | ldRpNn (rp : RegPair) (nn : Word)
  /-- LD (BC),A (R208, base space). -/
  | ldMBcA
  /-- LD (DE),A (R209, base space). -/
  | ldMDeA
  /-- LD (nn),HL (R218, base space). -/
  | ldMNnHl (nn : Word)
  /-- LD (nn),A (R210, base space). -/
  | ldMNnA (nn : Word)
  /-- INC rp (R270, base space). -/
  | incRp (rp : RegPair)
  /-- INC (HL) (R259, base space). -/
  | incMHl
  /-- DEC (HL) (R261, base space). -/
  | decMHl
  /-- LD (HL),n (R204, base space). -/
  | ldMHlN (n : Byte)
  /-- INC r (R258, base space). -/
  | incR (r : Reg8)
  /-- DEC r (R260, base space). -/
  | decR (r : Reg8)
  /-- LD r,n (R201, base space). -/
  | ldRN (r : Reg8) (n : Byte)
  /-- RLCA (R272, base space). -/
  | rlca
  /-- RRCA (R274, base space). -/
  | rrca
  /-- RLA (R273, base space). -/
  | rla
  /-- RRA (R275, base space). -/
  | rra
  /-- DAA (R262, base space). -/
  | daa
  /-- CPL (R263, base space). -/
  | cpl
  /-- SCF (R266, base space). -/
  | scf
  /-- CCF (R265, base space). -/
  | ccf
  /-- EX AF,AF' (R224, base space). -/
  | exAfAf
  /-- ADD HL,rp (R267, base space). -/
  | addHlRp (rp : RegPair)
  /-- LD A,(BC) (R205, base space). -/
  | ldAMBc
  /-- LD A,(DE) (R206, base space). -/
  | ldAMDe
  /-- LD HL,(nn) (R216, base space). -/
  | ldHlMNn (nn : Word)
  /-- LD A,(nn) (R207, base space). -/
  | ldAMNn (nn : Word)
  /-- DEC rp (R271, base space). -/
  | decRp (rp : RegPair)
  /-- DJNZ e (R345, base space). -/
  | djnz (e : Byte)
  /-- JR e (R342, base space). -/
  | jr (e : Byte)
  /-- JR cc,e (R343, base space). -/
  | jrCc (cc : Cond) (e : Byte)
  /-- HALT (R393, base space). -/
  | halt
  /-- LD (HL),s (R203, base space). -/
  | ldMHlR (q : Reg8)
  /-- LD r,(HL) (R202, base space). -/
  | ldRMHl (r : Reg8)
  /-- LD r,s (R200, base space). -/
  | ldRR (r : Reg8) (q : Reg8)
  /-- ADD A,(HL) (R250, base space). -/
  | addAMHl
  /-- ADD A,s (R250, base space). -/
  | addAR (q : Reg8)
  /-- ADD A,n (R250, base space). -/
  | addAN (n : Byte)
  /-- ADC A,(HL) (R251, base space). -/
  | adcAMHl
  /-- ADC A,s (R251, base space). -/
  | adcAR (q : Reg8)
  /-- ADC A,n (R251, base space). -/
  | adcAN (n : Byte)
  /-- SUB (HL) (R252, base space). -/
  | subMHl
  /-- SUB s (R252, base space). -/
  | subR (q : Reg8)
  /-- SUB n (R252, base space). -/
  | subN (n : Byte)
  /-- SBC A,(HL) (R253, base space). -/
  | sbcAMHl
  /-- SBC A,s (R253, base space). -/
  | sbcAR (q : Reg8)
  /-- SBC A,n (R253, base space). -/
  | sbcAN (n : Byte)
  /-- AND (HL) (R254, base space). -/
  | andMHl
  /-- AND s (R254, base space). -/
  | andR (q : Reg8)
  /-- AND n (R254, base space). -/
  | andN (n : Byte)
  /-- XOR (HL) (R255, base space). -/
  | xorMHl
  /-- XOR s (R255, base space). -/
  | xorR (q : Reg8)
  /-- XOR n (R255, base space). -/
  | xorN (n : Byte)
  /-- OR (HL) (R256, base space). -/
  | orMHl
  /-- OR s (R256, base space). -/
  | orR (q : Reg8)
  /-- OR n (R256, base space). -/
  | orN (n : Byte)
  /-- CP (HL) (R257, base space). -/
  | cpMHl
  /-- CP s (R257, base space). -/
  | cpR (q : Reg8)
  /-- CP n (R257, base space). -/
  | cpN (n : Byte)
  /-- RET cc (R349, base space). -/
  | retCc (cc : Cond)
  /-- POP qq (R222, base space). -/
  | popQq (qq : StackPair)
  /-- JP cc,nn (R341, base space). -/
  | jpCcNn (cc : Cond) (nn : Word)
  /-- JP nn (R340, base space). -/
  | jpNn (nn : Word)
  /-- CALL cc,nn (R347, base space). -/
  | callCcNn (cc : Cond) (nn : Word)
  /-- PUSH qq (R221, base space). -/
  | pushQq (qq : StackPair)
  /-- RST p (R350, base space). -/
  | rst (y : Index8)
  /-- RET (R348, base space). -/
  | ret
  /-- CALL nn (R346, base space). -/
  | callNn (nn : Word)
  /-- OUT (n),A (R385, base space). -/
  | outNA (n : Byte)
  /-- EXX (R225, base space). -/
  | exx
  /-- IN A,(n) (R378, base space). -/
  | inAN (n : Byte)
  /-- EX (SP),HL (R226, base space). -/
  | exMSpHl
  /-- JP (HL) (R344, base space). -/
  | jpHl
  /-- EX DE,HL (R223, base space). -/
  | exDeHl
  /-- DI (R394, base space). -/
  | di
  /-- LD SP,HL (R220, base space). -/
  | ldSpHl
  /-- EI (R395, base space). -/
  | ei
  /-- RLC (HL) (R300, CB space). -/
  | rlcMHl
  /-- RLC s (R300, CB space). -/
  | rlcR (q : Reg8)
  /-- RRC (HL) (R301, CB space). -/
  | rrcMHl
  /-- RRC s (R301, CB space). -/
  | rrcR (q : Reg8)
  /-- RL (HL) (R302, CB space). -/
  | rlMHl
  /-- RL s (R302, CB space). -/
  | rlR (q : Reg8)
  /-- RR (HL) (R303, CB space). -/
  | rrMHl
  /-- RR s (R303, CB space). -/
  | rrR (q : Reg8)
  /-- SLA (HL) (R304, CB space). -/
  | slaMHl
  /-- SLA s (R304, CB space). -/
  | slaR (q : Reg8)
  /-- SRA (HL) (R305, CB space). -/
  | sraMHl
  /-- SRA s (R305, CB space). -/
  | sraR (q : Reg8)
  /-- SLL (HL) (R306, CB space). -/
  | sllMHl
  /-- SLL s (R306, CB space). -/
  | sllR (q : Reg8)
  /-- SRL (HL) (R307, CB space). -/
  | srlMHl
  /-- SRL s (R307, CB space). -/
  | srlR (q : Reg8)
  /-- BIT b,(HL) (R309, CB space). -/
  | bitMHl (b : Index8)
  /-- BIT b,s (R308, CB space). -/
  | bitR (b : Index8) (q : Reg8)
  /-- RES b,(HL) (R311, CB space). -/
  | resMHl (b : Index8)
  /-- RES b,s (R311, CB space). -/
  | resR (b : Index8) (q : Reg8)
  /-- SET b,(HL) (R310, CB space). -/
  | setMHl (b : Index8)
  /-- SET b,s (R310, CB space). -/
  | setR (b : Index8) (q : Reg8)
  /-- IN F,(C) (R380, ED space). -/
  | inFC
  /-- IN r,(C) (R379, ED space). -/
  | inRC (r : Reg8)
  /-- OUT (C),0 (R387, ED space). -/
  | outC0
  /-- OUT (C),r (R386, ED space). -/
  | outCR (r : Reg8)
  /-- SBC HL,rp (R269, ED space). -/
  | sbcHlRp (rp : RegPair)
  /-- ADC HL,rp (R268, ED space). -/
  | adcHlRp (rp : RegPair)
  /-- LD (nn),rp (R219, ED space). -/
  | ldMNnRp (rp : RegPair) (nn : Word)
  /-- LD rp,(nn) (R217, ED space). -/
  | ldRpMNn (rp : RegPair) (nn : Word)
  /-- NEG (R264, ED space). -/
  | neg
  /-- RETI (R400, ED space). -/
  | reti
  /-- RETN (R399, ED space). -/
  | retn
  /-- IM 0 (R396, ED space). -/
  | im0
  /-- IM 1 (R397, ED space). -/
  | im1
  /-- IM 2 (R398, ED space). -/
  | im2
  /-- LD I,A (R213, ED space). -/
  | ldIA
  /-- LD R,A (R214, ED space). -/
  | ldRA
  /-- LD A,I (R211, ED space). -/
  | ldAI
  /-- LD A,R (R212, ED space). -/
  | ldAR
  /-- RRD (R317, ED space). -/
  | rrd
  /-- RLD (R316, ED space). -/
  | rld
  /-- LDI (R370, ED space). -/
  | ldi
  /-- LDIR (R371, ED space). -/
  | ldir
  /-- LDD (R372, ED space). -/
  | ldd
  /-- LDDR (R373, ED space). -/
  | lddr
  /-- CPI (R374, ED space). -/
  | cpi
  /-- CPIR (R375, ED space). -/
  | cpir
  /-- CPD (R376, ED space). -/
  | cpd
  /-- CPDR (R377, ED space). -/
  | cpdr
  /-- INI (R381, ED space). -/
  | ini
  /-- INIR (R382, ED space). -/
  | inir
  /-- IND (R383, ED space). -/
  | ind
  /-- INDR (R384, ED space). -/
  | indr
  /-- OUTI (R388, ED space). -/
  | outi
  /-- OTIR (R389, ED space). -/
  | otir
  /-- OUTD (R390, ED space). -/
  | outd
  /-- OTDR (R391, ED space). -/
  | otdr
  /-- ED no-op (R401, ED space). -/
  | edNop (op : Byte)
  /-- ADD X,rp (R267, DD/FD space). -/
  | addXRp (x : Idx) (rp : RegPair)
  /-- LD X,nn (R215, DD/FD space). -/
  | ldXNn (x : Idx) (nn : Word)
  /-- LD (nn),X (R218, DD/FD space). -/
  | ldMNnX (x : Idx) (nn : Word)
  /-- INC X (R270, DD/FD space). -/
  | incX (x : Idx)
  /-- INC XH (R258, DD/FD space). -/
  | incXH (x : Idx)
  /-- DEC XH (R260, DD/FD space). -/
  | decXH (x : Idx)
  /-- LD XH,n (R201, DD/FD space). -/
  | ldXHN (x : Idx) (n : Byte)
  /-- LD X,(nn) (R216, DD/FD space). -/
  | ldXMNn (x : Idx) (nn : Word)
  /-- DEC X (R271, DD/FD space). -/
  | decX (x : Idx)
  /-- INC XL (R258, DD/FD space). -/
  | incXL (x : Idx)
  /-- DEC XL (R260, DD/FD space). -/
  | decXL (x : Idx)
  /-- LD XL,n (R201, DD/FD space). -/
  | ldXLN (x : Idx) (n : Byte)
  /-- INC (X+d) (R259, DD/FD space). -/
  | incXd (x : Idx) (d : Byte)
  /-- DEC (X+d) (R261, DD/FD space). -/
  | decXd (x : Idx) (d : Byte)
  /-- LD (X+d),n (R204, DD/FD space). -/
  | ldXdN (x : Idx) (d : Byte) (n : Byte)
  /-- fallback before HALT (R113, DD/FD space). -/
  | fallbackBeforeHalt (x : Idx)
  /-- LD (X+d),s (R203, DD/FD space). -/
  | ldXdR (x : Idx) (q : Reg8) (d : Byte)
  /-- LD r,(X+d) (R202, DD/FD space). -/
  | ldRXd (r : Reg8) (x : Idx) (d : Byte)
  /-- LD r,XH (R200, DD/FD space). -/
  | ldRXH (r : Reg8) (x : Idx)
  /-- LD r,XL (R200, DD/FD space). -/
  | ldRXL (r : Reg8) (x : Idx)
  /-- LD XH,s (R200, DD/FD space). -/
  | ldXHR (x : Idx) (q : Reg8)
  /-- LD XL,s (R200, DD/FD space). -/
  | ldXLR (x : Idx) (q : Reg8)
  /-- ADD A,(X+d) (R250, DD/FD space). -/
  | addAXd (x : Idx) (d : Byte)
  /-- ADD A,XH (R250, DD/FD space). -/
  | addAXH (x : Idx)
  /-- ADD A,XL (R250, DD/FD space). -/
  | addAXL (x : Idx)
  /-- ADC A,(X+d) (R251, DD/FD space). -/
  | adcAXd (x : Idx) (d : Byte)
  /-- ADC A,XH (R251, DD/FD space). -/
  | adcAXH (x : Idx)
  /-- ADC A,XL (R251, DD/FD space). -/
  | adcAXL (x : Idx)
  /-- SUB (X+d) (R252, DD/FD space). -/
  | subXd (x : Idx) (d : Byte)
  /-- SUB XH (R252, DD/FD space). -/
  | subXH (x : Idx)
  /-- SUB XL (R252, DD/FD space). -/
  | subXL (x : Idx)
  /-- SBC A,(X+d) (R253, DD/FD space). -/
  | sbcAXd (x : Idx) (d : Byte)
  /-- SBC A,XH (R253, DD/FD space). -/
  | sbcAXH (x : Idx)
  /-- SBC A,XL (R253, DD/FD space). -/
  | sbcAXL (x : Idx)
  /-- AND (X+d) (R254, DD/FD space). -/
  | andXd (x : Idx) (d : Byte)
  /-- AND XH (R254, DD/FD space). -/
  | andXH (x : Idx)
  /-- AND XL (R254, DD/FD space). -/
  | andXL (x : Idx)
  /-- XOR (X+d) (R255, DD/FD space). -/
  | xorXd (x : Idx) (d : Byte)
  /-- XOR XH (R255, DD/FD space). -/
  | xorXH (x : Idx)
  /-- XOR XL (R255, DD/FD space). -/
  | xorXL (x : Idx)
  /-- OR (X+d) (R256, DD/FD space). -/
  | orXd (x : Idx) (d : Byte)
  /-- OR XH (R256, DD/FD space). -/
  | orXH (x : Idx)
  /-- OR XL (R256, DD/FD space). -/
  | orXL (x : Idx)
  /-- CP (X+d) (R257, DD/FD space). -/
  | cpXd (x : Idx) (d : Byte)
  /-- CP XH (R257, DD/FD space). -/
  | cpXH (x : Idx)
  /-- CP XL (R257, DD/FD space). -/
  | cpXL (x : Idx)
  /-- indexed bit space: DD|FD CB d op, see space DDCB/FDCB (R312, DD/FD space). -/
  | indexedBitSpace (x : Idx) (d : Byte) (op : Byte)
  /-- POP X (R222, DD/FD space). -/
  | popX (x : Idx)
  /-- EX (SP),X (R226, DD/FD space). -/
  | exMSpX (x : Idx)
  /-- PUSH X (R221, DD/FD space). -/
  | pushX (x : Idx)
  /-- JP (X) (R344, DD/FD space). -/
  | jpX (x : Idx)
  /-- LD SP,X (R220, DD/FD space). -/
  | ldSpX (x : Idx)
  /-- prefix fallback (R113, DD/FD space). -/
  | prefixFallback (x : Idx) (nxt : Byte)
  /-- RLC (X+d) (R300, DDCB/FDCB space). -/
  | rlcXd (x : Idx) (d : Byte)
  /-- RLC (X+d),s (R312, DDCB/FDCB space). -/
  | rlcXdR (x : Idx) (d : Byte) (q : Reg8)
  /-- RRC (X+d) (R301, DDCB/FDCB space). -/
  | rrcXd (x : Idx) (d : Byte)
  /-- RRC (X+d),s (R312, DDCB/FDCB space). -/
  | rrcXdR (x : Idx) (d : Byte) (q : Reg8)
  /-- RL (X+d) (R302, DDCB/FDCB space). -/
  | rlXd (x : Idx) (d : Byte)
  /-- RL (X+d),s (R312, DDCB/FDCB space). -/
  | rlXdR (x : Idx) (d : Byte) (q : Reg8)
  /-- RR (X+d) (R303, DDCB/FDCB space). -/
  | rrXd (x : Idx) (d : Byte)
  /-- RR (X+d),s (R312, DDCB/FDCB space). -/
  | rrXdR (x : Idx) (d : Byte) (q : Reg8)
  /-- SLA (X+d) (R304, DDCB/FDCB space). -/
  | slaXd (x : Idx) (d : Byte)
  /-- SLA (X+d),s (R312, DDCB/FDCB space). -/
  | slaXdR (x : Idx) (d : Byte) (q : Reg8)
  /-- SRA (X+d) (R305, DDCB/FDCB space). -/
  | sraXd (x : Idx) (d : Byte)
  /-- SRA (X+d),s (R312, DDCB/FDCB space). -/
  | sraXdR (x : Idx) (d : Byte) (q : Reg8)
  /-- SLL (X+d) (R306, DDCB/FDCB space). -/
  | sllXd (x : Idx) (d : Byte)
  /-- SLL (X+d),s (R312, DDCB/FDCB space). -/
  | sllXdR (x : Idx) (d : Byte) (q : Reg8)
  /-- SRL (X+d) (R307, DDCB/FDCB space). -/
  | srlXd (x : Idx) (d : Byte)
  /-- SRL (X+d),s (R312, DDCB/FDCB space). -/
  | srlXdR (x : Idx) (d : Byte) (q : Reg8)
  /-- BIT b,(X+d) (R309, DDCB/FDCB space). -/
  | bitXd (x : Idx) (d : Byte) (b : Index8)
  /-- BIT b,(X+d) (alias) (R309, DDCB/FDCB space). -/
  | bitXdAlias (x : Idx) (d : Byte) (b : Index8) (z : Reg8)
  /-- RES b,(X+d) (R311, DDCB/FDCB space). -/
  | resXd (x : Idx) (d : Byte) (b : Index8)
  /-- RES b,(X+d),s (R312, DDCB/FDCB space). -/
  | resXdR (x : Idx) (d : Byte) (b : Index8) (q : Reg8)
  /-- SET b,(X+d) (R310, DDCB/FDCB space). -/
  | setXd (x : Idx) (d : Byte) (b : Index8)
  /-- SET b,(X+d),s (R312, DDCB/FDCB space). -/
  | setXdR (x : Idx) (d : Byte) (b : Index8) (q : Reg8)
  deriving DecidableEq, Repr

end Sys2Proof
end

