-- ==== Sys2Proof/Decode.lean ====
section
/-! DEFINITION. The decoder, total on any bytes (30_encoding.md R100-R126), and after it the encoder.
The row lists carry the mask and match of spec/opcode_table.json, in its order; where two rows match, the first wins. -/

namespace Sys2Proof

/-! ## Fields and codes -/

/-- `y = op[5:3]` (R104). -/
def fieldY (op : Byte) : BitVec 3 := op.extractLsb' 3 3

/-- `z = op[2:0]` (R104). -/
def fieldZ (op : Byte) : BitVec 3 := op.extractLsb' 0 3

/-- `p = op[5:4]` (R104). -/
def fieldP (op : Byte) : BitVec 2 := op.extractLsb' 4 2

/-- The register code (R106). -/
def Reg8.code : Reg8 → BitVec 3
  | .b => 0 | .c => 1 | .d => 2 | .e => 3 | .h => 4 | .l => 5 | .a => 7

/-- The register of a code (R106); code 6 names no register. -/
def Reg8.ofCode (c : BitVec 3) : Option Reg8 :=
  match c.toNat with
  | 0 => some .b | 1 => some .c | 2 => some .d | 3 => some .e | 4 => some .h | 5 => some .l | 7 => some .a
  | _ => none

/-- The pair code rp (R107). -/
def RegPair.code : RegPair → BitVec 2
  | .bc => 0 | .de => 1 | .hl => 2 | .sp => 3

/-- The pair of a code rp (R107). -/
def RegPair.ofCode (c : BitVec 2) : RegPair :=
  match c.toNat with
  | 0 => .bc | 1 => .de | 2 => .hl | _ => .sp

/-- The pair code rp2 (R107). -/
def StackPair.code : StackPair → BitVec 2
  | .bc => 0 | .de => 1 | .hl => 2 | .af => 3

/-- The pair of a code rp2 (R107). -/
def StackPair.ofCode (c : BitVec 2) : StackPair :=
  match c.toNat with
  | 0 => .bc | 1 => .de | 2 => .hl | _ => .af

/-- The condition code (R108). -/
def Cond.code : Cond → BitVec 3
  | .nz => 0 | .z => 1 | .nc => 2 | .c => 3 | .po => 4 | .pe => 5 | .p => 6 | .m => 7

/-- The condition of a code (R108). -/
def Cond.ofCode (c : BitVec 3) : Cond :=
  match c.toNat with
  | 0 => .nz | 1 => .z | 2 => .nc | 3 => .c | 4 => .po | 5 => .pe | 6 => .p | _ => .m

/-- A bit number or RST number as a number (R126). -/
def Index8.val : Index8 → Nat
  | .i0 => 0 | .i1 => 1 | .i2 => 2 | .i3 => 3 | .i4 => 4 | .i5 => 5 | .i6 => 6 | .i7 => 7

/-- A bit number or RST number as the 3-bit field y (R126). -/
def Index8.code (b : Index8) : BitVec 3 := BitVec.ofNat 3 b.val

/-- The bit number or RST number of a 3-bit field (R126). -/
def Index8.ofCode (c : BitVec 3) : Index8 :=
  match c.toNat with
  | 0 => .i0 | 1 => .i1 | 2 => .i2 | 3 => .i3 | 4 => .i4 | 5 => .i5 | 6 => .i6 | _ => .i7

/-- The prefix byte that selects X (R112). -/
def Idx.prefixByte : Idx → Byte
  | .ix => 0xDD
  | .iy => 0xFD

/-- `UsesHL`: the bytes a DD or FD prefix applies to (R114). -/
def usesHL (op : Byte) : Bool :=
  (op == 0x09 || op == 0x19 || op == 0x29 || op == 0x39)
    || (op == 0x21 || op == 0x22 || op == 0x2A || op == 0x23 || op == 0x2B)
    || (op == 0x24 || op == 0x25 || op == 0x26 || op == 0x2C || op == 0x2D || op == 0x2E)
    || (op == 0x34 || op == 0x35 || op == 0x36)
    || (0x40 ≤ op.toNat && op.toNat ≤ 0x7F && op != 0x76
        && ((4 ≤ (fieldY op).toNat && (fieldY op).toNat ≤ 6) || (4 ≤ (fieldZ op).toNat && (fieldZ op).toNat ≤ 6)))
    || (0x80 ≤ op.toNat && op.toNat ≤ 0xBF && 4 ≤ (fieldZ op).toNat && (fieldZ op).toNat ≤ 6)
    || (op == 0xCB || op == 0xE1 || op == 0xE3 || op == 0xE5 || op == 0xE9 || op == 0xF9)

/-- The 178 bytes that are no-ops after ED (R122). -/
def isEdHole (op : Byte) : Bool :=
  let n := op.toNat
  n ≤ 0x3F || n == 0x77 || n == 0x7F || (0x80 ≤ n && n ≤ 0x9F) || (0xA4 ≤ n && n ≤ 0xA7) || (0xAC ≤ n && n ≤ 0xAF)
    || (0xB4 ≤ n && n ≤ 0xB7) || (0xBC ≤ n && n ≤ 0xBF) || 0xC0 ≤ n

/-! ## The decoder's shapes -/

/-- Why the decoder gives no instruction. -/
inductive DecodeError
  /-- The bytes given end before the instruction does; a fetch from memory always has the bytes. -/
  | truncated
  /-- The opcode falls through every row: the dispatcher's last arm (R123, R431). -/
  | undecoded (op : Byte)
  deriving DecidableEq, Repr

/-- What an opcode byte selects: an instruction still waiting for its operand bytes (R102). -/
inductive Build
  /-- No operand byte. -/
  | whole (i : Instr)
  /-- One byte: an immediate n or a displacement d or e. -/
  | byte (f : Byte → Instr)
  /-- A word, low byte first. -/
  | word (f : Word → Instr)
  /-- A displacement, then an immediate. -/
  | dispByte (f : Byte → Byte → Instr)

/-- One row of opcode_table.json: it matches a byte `op` when `op & mask = pattern` (R129). -/
structure Row where
  mask : Byte
  pattern : Byte
  build : Byte → Option Build

/-- The first row that matches decides (R129); no row, or a register field that names no register, decides nothing. -/
def select : List Row → Byte → Option Build
  | [], _ => none
  | r :: rs, op => if op &&& r.mask = r.pattern then r.build op else select rs op

/-- What a decoding says: the instruction, how many bytes it takes, and how many of them `FetchOpcode` fetches (R103). -/
structure Decoded where
  instr : Instr
  size : Nat
  opcodeFetches : Nat
  deriving DecidableEq, Repr

/-! ## The rows -/

/-- The base space (R111), part 1. -/
def baseRows1 : List Row :=
  [ ⟨0xFF, 0x00, fun _ => some (.whole .nop)⟩,
    ⟨0xCF, 0x01, fun op => some (.word (.ldRpNn (RegPair.ofCode (fieldP op))))⟩,
    ⟨0xFF, 0x02, fun _ => some (.whole .ldMBcA)⟩,
    ⟨0xFF, 0x12, fun _ => some (.whole .ldMDeA)⟩,
    ⟨0xFF, 0x22, fun _ => some (.word .ldMNnHl)⟩,
    ⟨0xFF, 0x32, fun _ => some (.word .ldMNnA)⟩,
    ⟨0xCF, 0x03, fun op => some (.whole (.incRp (RegPair.ofCode (fieldP op))))⟩,
    ⟨0xFF, 0x34, fun _ => some (.whole .incMHl)⟩,
    ⟨0xFF, 0x35, fun _ => some (.whole .decMHl)⟩,
    ⟨0xFF, 0x36, fun _ => some (.byte .ldMHlN)⟩,
    ⟨0xC7, 0x04, fun op => (Reg8.ofCode (fieldY op)).map fun r => .whole (.incR r)⟩,
    ⟨0xC7, 0x05, fun op => (Reg8.ofCode (fieldY op)).map fun r => .whole (.decR r)⟩,
    ⟨0xC7, 0x06, fun op => (Reg8.ofCode (fieldY op)).map fun r => .byte (.ldRN r)⟩,
    ⟨0xFF, 0x07, fun _ => some (.whole .rlca)⟩,
    ⟨0xFF, 0x0F, fun _ => some (.whole .rrca)⟩,
    ⟨0xFF, 0x17, fun _ => some (.whole .rla)⟩,
    ⟨0xFF, 0x1F, fun _ => some (.whole .rra)⟩,
    ⟨0xFF, 0x27, fun _ => some (.whole .daa)⟩,
    ⟨0xFF, 0x2F, fun _ => some (.whole .cpl)⟩,
    ⟨0xFF, 0x37, fun _ => some (.whole .scf)⟩ ]

/-- The base space (R111), part 2. -/
def baseRows2 : List Row :=
  [ ⟨0xFF, 0x3F, fun _ => some (.whole .ccf)⟩,
    ⟨0xFF, 0x08, fun _ => some (.whole .exAfAf)⟩,
    ⟨0xCF, 0x09, fun op => some (.whole (.addHlRp (RegPair.ofCode (fieldP op))))⟩,
    ⟨0xFF, 0x0A, fun _ => some (.whole .ldAMBc)⟩,
    ⟨0xFF, 0x1A, fun _ => some (.whole .ldAMDe)⟩,
    ⟨0xFF, 0x2A, fun _ => some (.word .ldHlMNn)⟩,
    ⟨0xFF, 0x3A, fun _ => some (.word .ldAMNn)⟩,
    ⟨0xCF, 0x0B, fun op => some (.whole (.decRp (RegPair.ofCode (fieldP op))))⟩,
    ⟨0xFF, 0x10, fun _ => some (.byte .djnz)⟩,
    ⟨0xFF, 0x18, fun _ => some (.byte .jr)⟩,
    ⟨0xE7, 0x20, fun op => some (.byte (.jrCc (Cond.ofCode (fieldY op &&& 3))))⟩,
    ⟨0xFF, 0x76, fun _ => some (.whole .halt)⟩,
    ⟨0xF8, 0x70, fun op => (Reg8.ofCode (fieldZ op)).map fun q => .whole (.ldMHlR q)⟩,
    ⟨0xC7, 0x46, fun op => (Reg8.ofCode (fieldY op)).map fun r => .whole (.ldRMHl r)⟩,
    ⟨0xC0, 0x40, fun op => (Reg8.ofCode (fieldY op)).bind fun r => (Reg8.ofCode (fieldZ op)).map fun q => .whole (.ldRR r q)⟩,
    ⟨0xFF, 0x86, fun _ => some (.whole .addAMHl)⟩,
    ⟨0xF8, 0x80, fun op => (Reg8.ofCode (fieldZ op)).map fun q => .whole (.addAR q)⟩,
    ⟨0xFF, 0xC6, fun _ => some (.byte .addAN)⟩,
    ⟨0xFF, 0x8E, fun _ => some (.whole .adcAMHl)⟩,
    ⟨0xF8, 0x88, fun op => (Reg8.ofCode (fieldZ op)).map fun q => .whole (.adcAR q)⟩ ]

/-- The base space (R111), part 3. -/
def baseRows3 : List Row :=
  [ ⟨0xFF, 0xCE, fun _ => some (.byte .adcAN)⟩,
    ⟨0xFF, 0x96, fun _ => some (.whole .subMHl)⟩,
    ⟨0xF8, 0x90, fun op => (Reg8.ofCode (fieldZ op)).map fun q => .whole (.subR q)⟩,
    ⟨0xFF, 0xD6, fun _ => some (.byte .subN)⟩,
    ⟨0xFF, 0x9E, fun _ => some (.whole .sbcAMHl)⟩,
    ⟨0xF8, 0x98, fun op => (Reg8.ofCode (fieldZ op)).map fun q => .whole (.sbcAR q)⟩,
    ⟨0xFF, 0xDE, fun _ => some (.byte .sbcAN)⟩,
    ⟨0xFF, 0xA6, fun _ => some (.whole .andMHl)⟩,
    ⟨0xF8, 0xA0, fun op => (Reg8.ofCode (fieldZ op)).map fun q => .whole (.andR q)⟩,
    ⟨0xFF, 0xE6, fun _ => some (.byte .andN)⟩,
    ⟨0xFF, 0xAE, fun _ => some (.whole .xorMHl)⟩,
    ⟨0xF8, 0xA8, fun op => (Reg8.ofCode (fieldZ op)).map fun q => .whole (.xorR q)⟩,
    ⟨0xFF, 0xEE, fun _ => some (.byte .xorN)⟩,
    ⟨0xFF, 0xB6, fun _ => some (.whole .orMHl)⟩,
    ⟨0xF8, 0xB0, fun op => (Reg8.ofCode (fieldZ op)).map fun q => .whole (.orR q)⟩,
    ⟨0xFF, 0xF6, fun _ => some (.byte .orN)⟩,
    ⟨0xFF, 0xBE, fun _ => some (.whole .cpMHl)⟩,
    ⟨0xF8, 0xB8, fun op => (Reg8.ofCode (fieldZ op)).map fun q => .whole (.cpR q)⟩,
    ⟨0xFF, 0xFE, fun _ => some (.byte .cpN)⟩,
    ⟨0xC7, 0xC0, fun op => some (.whole (.retCc (Cond.ofCode (fieldY op))))⟩ ]

/-- The base space (R111), part 4. -/
def baseRows4 : List Row :=
  [ ⟨0xCF, 0xC1, fun op => some (.whole (.popQq (StackPair.ofCode (fieldP op))))⟩,
    ⟨0xC7, 0xC2, fun op => some (.word (.jpCcNn (Cond.ofCode (fieldY op))))⟩,
    ⟨0xFF, 0xC3, fun _ => some (.word .jpNn)⟩,
    ⟨0xC7, 0xC4, fun op => some (.word (.callCcNn (Cond.ofCode (fieldY op))))⟩,
    ⟨0xCF, 0xC5, fun op => some (.whole (.pushQq (StackPair.ofCode (fieldP op))))⟩,
    ⟨0xC7, 0xC7, fun op => some (.whole (.rst (Index8.ofCode (fieldY op))))⟩,
    ⟨0xFF, 0xC9, fun _ => some (.whole .ret)⟩,
    ⟨0xFF, 0xCD, fun _ => some (.word .callNn)⟩,
    ⟨0xFF, 0xD3, fun _ => some (.byte .outNA)⟩,
    ⟨0xFF, 0xD9, fun _ => some (.whole .exx)⟩,
    ⟨0xFF, 0xDB, fun _ => some (.byte .inAN)⟩,
    ⟨0xFF, 0xE3, fun _ => some (.whole .exMSpHl)⟩,
    ⟨0xFF, 0xE9, fun _ => some (.whole .jpHl)⟩,
    ⟨0xFF, 0xEB, fun _ => some (.whole .exDeHl)⟩,
    ⟨0xFF, 0xF3, fun _ => some (.whole .di)⟩,
    ⟨0xFF, 0xF9, fun _ => some (.whole .ldSpHl)⟩,
    ⟨0xFF, 0xFB, fun _ => some (.whole .ei)⟩ ]

/-- The base space (R111): the rows of opcode_table.json in their order, the first match wins (R129). -/
def baseRows : List Row :=
  baseRows1 ++ baseRows2 ++ baseRows3 ++ baseRows4

/-- The CB space (R119), part 1. -/
def cbRows1 : List Row :=
  [ ⟨0xFF, 0x06, fun _ => some (.whole .rlcMHl)⟩,
    ⟨0xF8, 0x00, fun op => (Reg8.ofCode (fieldZ op)).map fun q => .whole (.rlcR q)⟩,
    ⟨0xFF, 0x0E, fun _ => some (.whole .rrcMHl)⟩,
    ⟨0xF8, 0x08, fun op => (Reg8.ofCode (fieldZ op)).map fun q => .whole (.rrcR q)⟩,
    ⟨0xFF, 0x16, fun _ => some (.whole .rlMHl)⟩,
    ⟨0xF8, 0x10, fun op => (Reg8.ofCode (fieldZ op)).map fun q => .whole (.rlR q)⟩,
    ⟨0xFF, 0x1E, fun _ => some (.whole .rrMHl)⟩,
    ⟨0xF8, 0x18, fun op => (Reg8.ofCode (fieldZ op)).map fun q => .whole (.rrR q)⟩,
    ⟨0xFF, 0x26, fun _ => some (.whole .slaMHl)⟩,
    ⟨0xF8, 0x20, fun op => (Reg8.ofCode (fieldZ op)).map fun q => .whole (.slaR q)⟩,
    ⟨0xFF, 0x2E, fun _ => some (.whole .sraMHl)⟩,
    ⟨0xF8, 0x28, fun op => (Reg8.ofCode (fieldZ op)).map fun q => .whole (.sraR q)⟩,
    ⟨0xFF, 0x36, fun _ => some (.whole .sllMHl)⟩,
    ⟨0xF8, 0x30, fun op => (Reg8.ofCode (fieldZ op)).map fun q => .whole (.sllR q)⟩,
    ⟨0xFF, 0x3E, fun _ => some (.whole .srlMHl)⟩,
    ⟨0xF8, 0x38, fun op => (Reg8.ofCode (fieldZ op)).map fun q => .whole (.srlR q)⟩,
    ⟨0xC7, 0x46, fun op => some (.whole (.bitMHl (Index8.ofCode (fieldY op))))⟩,
    ⟨0xC0, 0x40, fun op => (Reg8.ofCode (fieldZ op)).map fun q => .whole (.bitR (Index8.ofCode (fieldY op)) q)⟩,
    ⟨0xC7, 0x86, fun op => some (.whole (.resMHl (Index8.ofCode (fieldY op))))⟩,
    ⟨0xC0, 0x80, fun op => (Reg8.ofCode (fieldZ op)).map fun q => .whole (.resR (Index8.ofCode (fieldY op)) q)⟩ ]

/-- The CB space (R119), part 2. -/
def cbRows2 : List Row :=
  [ ⟨0xC7, 0xC6, fun op => some (.whole (.setMHl (Index8.ofCode (fieldY op))))⟩,
    ⟨0xC0, 0xC0, fun op => (Reg8.ofCode (fieldZ op)).map fun q => .whole (.setR (Index8.ofCode (fieldY op)) q)⟩ ]

/-- The CB space (R119): the rows of opcode_table.json in their order, the first match wins (R129). -/
def cbRows : List Row :=
  cbRows1 ++ cbRows2

/-- The ED space (R121, R122), part 1. -/
def edRows1 : List Row :=
  [ ⟨0xFF, 0x70, fun _ => some (.whole .inFC)⟩,
    ⟨0xC7, 0x40, fun op => (Reg8.ofCode (fieldY op)).map fun r => .whole (.inRC r)⟩,
    ⟨0xFF, 0x71, fun _ => some (.whole .outC0)⟩,
    ⟨0xC7, 0x41, fun op => (Reg8.ofCode (fieldY op)).map fun r => .whole (.outCR r)⟩,
    ⟨0xCF, 0x42, fun op => some (.whole (.sbcHlRp (RegPair.ofCode (fieldP op))))⟩,
    ⟨0xCF, 0x4A, fun op => some (.whole (.adcHlRp (RegPair.ofCode (fieldP op))))⟩,
    ⟨0xCF, 0x43, fun op => some (.word (.ldMNnRp (RegPair.ofCode (fieldP op))))⟩,
    ⟨0xCF, 0x4B, fun op => some (.word (.ldRpMNn (RegPair.ofCode (fieldP op))))⟩,
    ⟨0xC7, 0x44, fun _ => some (.whole .neg)⟩,
    ⟨0xFF, 0x4D, fun _ => some (.whole .reti)⟩,
    ⟨0xC7, 0x45, fun _ => some (.whole .retn)⟩,
    ⟨0xD7, 0x46, fun _ => some (.whole .im0)⟩,
    ⟨0xDF, 0x56, fun _ => some (.whole .im1)⟩,
    ⟨0xDF, 0x5E, fun _ => some (.whole .im2)⟩,
    ⟨0xFF, 0x47, fun _ => some (.whole .ldIA)⟩,
    ⟨0xFF, 0x4F, fun _ => some (.whole .ldRA)⟩,
    ⟨0xFF, 0x57, fun _ => some (.whole .ldAI)⟩,
    ⟨0xFF, 0x5F, fun _ => some (.whole .ldAR)⟩,
    ⟨0xFF, 0x67, fun _ => some (.whole .rrd)⟩,
    ⟨0xFF, 0x6F, fun _ => some (.whole .rld)⟩ ]

/-- The ED space (R121, R122), part 2. -/
def edRows2 : List Row :=
  [ ⟨0xFF, 0xA0, fun _ => some (.whole .ldi)⟩,
    ⟨0xFF, 0xB0, fun _ => some (.whole .ldir)⟩,
    ⟨0xFF, 0xA8, fun _ => some (.whole .ldd)⟩,
    ⟨0xFF, 0xB8, fun _ => some (.whole .lddr)⟩,
    ⟨0xFF, 0xA1, fun _ => some (.whole .cpi)⟩,
    ⟨0xFF, 0xB1, fun _ => some (.whole .cpir)⟩,
    ⟨0xFF, 0xA9, fun _ => some (.whole .cpd)⟩,
    ⟨0xFF, 0xB9, fun _ => some (.whole .cpdr)⟩,
    ⟨0xFF, 0xA2, fun _ => some (.whole .ini)⟩,
    ⟨0xFF, 0xB2, fun _ => some (.whole .inir)⟩,
    ⟨0xFF, 0xAA, fun _ => some (.whole .ind)⟩,
    ⟨0xFF, 0xBA, fun _ => some (.whole .indr)⟩,
    ⟨0xFF, 0xA3, fun _ => some (.whole .outi)⟩,
    ⟨0xFF, 0xB3, fun _ => some (.whole .otir)⟩,
    ⟨0xFF, 0xAB, fun _ => some (.whole .outd)⟩,
    ⟨0xFF, 0xBB, fun _ => some (.whole .otdr)⟩,
    ⟨0x00, 0x00, fun op => some (.whole (.edNop op))⟩ ]

/-- The ED space (R121, R122): the rows of opcode_table.json in their order, the first match wins (R129). -/
def edRows : List Row :=
  edRows1 ++ edRows2

/-- The DD/FD space (R112-R116), the rows that use HL, part 1. -/
def idxRows1 (x : Idx) : List Row :=
  [ ⟨0xCF, 0x09, fun op => some (.whole (.addXRp x (RegPair.ofCode (fieldP op))))⟩,
    ⟨0xFF, 0x21, fun _ => some (.word (.ldXNn x))⟩,
    ⟨0xFF, 0x22, fun _ => some (.word (.ldMNnX x))⟩,
    ⟨0xFF, 0x23, fun _ => some (.whole (.incX x))⟩,
    ⟨0xFF, 0x24, fun _ => some (.whole (.incXH x))⟩,
    ⟨0xFF, 0x25, fun _ => some (.whole (.decXH x))⟩,
    ⟨0xFF, 0x26, fun _ => some (.byte (.ldXHN x))⟩,
    ⟨0xFF, 0x2A, fun _ => some (.word (.ldXMNn x))⟩,
    ⟨0xFF, 0x2B, fun _ => some (.whole (.decX x))⟩,
    ⟨0xFF, 0x2C, fun _ => some (.whole (.incXL x))⟩,
    ⟨0xFF, 0x2D, fun _ => some (.whole (.decXL x))⟩,
    ⟨0xFF, 0x2E, fun _ => some (.byte (.ldXLN x))⟩,
    ⟨0xFF, 0x34, fun _ => some (.byte (.incXd x))⟩,
    ⟨0xFF, 0x35, fun _ => some (.byte (.decXd x))⟩,
    ⟨0xFF, 0x36, fun _ => some (.dispByte (.ldXdN x))⟩,
    ⟨0xF8, 0x70, fun op => (Reg8.ofCode (fieldZ op)).map fun q => .byte (.ldXdR x q)⟩,
    ⟨0xC7, 0x46, fun op => (Reg8.ofCode (fieldY op)).map fun r => .byte (.ldRXd r x)⟩,
    ⟨0xC7, 0x44, fun op => (Reg8.ofCode (fieldY op)).map fun r => .whole (.ldRXH r x)⟩,
    ⟨0xC7, 0x45, fun op => (Reg8.ofCode (fieldY op)).map fun r => .whole (.ldRXL r x)⟩,
    ⟨0xF8, 0x60, fun op => (Reg8.ofCode (fieldZ op)).map fun q => .whole (.ldXHR x q)⟩ ]

/-- The DD/FD space (R112-R116), the rows that use HL, part 2. -/
def idxRows2 (x : Idx) : List Row :=
  [ ⟨0xF8, 0x68, fun op => (Reg8.ofCode (fieldZ op)).map fun q => .whole (.ldXLR x q)⟩,
    ⟨0xFF, 0x86, fun _ => some (.byte (.addAXd x))⟩,
    ⟨0xFF, 0x84, fun _ => some (.whole (.addAXH x))⟩,
    ⟨0xFF, 0x85, fun _ => some (.whole (.addAXL x))⟩,
    ⟨0xFF, 0x8E, fun _ => some (.byte (.adcAXd x))⟩,
    ⟨0xFF, 0x8C, fun _ => some (.whole (.adcAXH x))⟩,
    ⟨0xFF, 0x8D, fun _ => some (.whole (.adcAXL x))⟩,
    ⟨0xFF, 0x96, fun _ => some (.byte (.subXd x))⟩,
    ⟨0xFF, 0x94, fun _ => some (.whole (.subXH x))⟩,
    ⟨0xFF, 0x95, fun _ => some (.whole (.subXL x))⟩,
    ⟨0xFF, 0x9E, fun _ => some (.byte (.sbcAXd x))⟩,
    ⟨0xFF, 0x9C, fun _ => some (.whole (.sbcAXH x))⟩,
    ⟨0xFF, 0x9D, fun _ => some (.whole (.sbcAXL x))⟩,
    ⟨0xFF, 0xA6, fun _ => some (.byte (.andXd x))⟩,
    ⟨0xFF, 0xA4, fun _ => some (.whole (.andXH x))⟩,
    ⟨0xFF, 0xA5, fun _ => some (.whole (.andXL x))⟩,
    ⟨0xFF, 0xAE, fun _ => some (.byte (.xorXd x))⟩,
    ⟨0xFF, 0xAC, fun _ => some (.whole (.xorXH x))⟩,
    ⟨0xFF, 0xAD, fun _ => some (.whole (.xorXL x))⟩,
    ⟨0xFF, 0xB6, fun _ => some (.byte (.orXd x))⟩ ]

/-- The DD/FD space (R112-R116), the rows that use HL, part 3. -/
def idxRows3 (x : Idx) : List Row :=
  [ ⟨0xFF, 0xB4, fun _ => some (.whole (.orXH x))⟩,
    ⟨0xFF, 0xB5, fun _ => some (.whole (.orXL x))⟩,
    ⟨0xFF, 0xBE, fun _ => some (.byte (.cpXd x))⟩,
    ⟨0xFF, 0xBC, fun _ => some (.whole (.cpXH x))⟩,
    ⟨0xFF, 0xBD, fun _ => some (.whole (.cpXL x))⟩,
    ⟨0xFF, 0xE1, fun _ => some (.whole (.popX x))⟩,
    ⟨0xFF, 0xE3, fun _ => some (.whole (.exMSpX x))⟩,
    ⟨0xFF, 0xE5, fun _ => some (.whole (.pushX x))⟩,
    ⟨0xFF, 0xE9, fun _ => some (.whole (.jpX x))⟩,
    ⟨0xFF, 0xF9, fun _ => some (.whole (.ldSpX x))⟩ ]

/-- The DD/FD space (R112-R116), the rows that use HL: the rows of opcode_table.json in their order, the first match wins (R129). -/
def idxRows (x : Idx) : List Row :=
  idxRows1 x ++ idxRows2 x ++ idxRows3 x

/-- The DDCB/FDCB space (R120), part 1. -/
def idxCbRows1 (x : Idx) : List Row :=
  [ ⟨0xFF, 0x06, fun _ => some (.byte (.rlcXd x))⟩,
    ⟨0xF8, 0x00, fun op => (Reg8.ofCode (fieldZ op)).map fun q => .byte (fun d => .rlcXdR x d q)⟩,
    ⟨0xFF, 0x0E, fun _ => some (.byte (.rrcXd x))⟩,
    ⟨0xF8, 0x08, fun op => (Reg8.ofCode (fieldZ op)).map fun q => .byte (fun d => .rrcXdR x d q)⟩,
    ⟨0xFF, 0x16, fun _ => some (.byte (.rlXd x))⟩,
    ⟨0xF8, 0x10, fun op => (Reg8.ofCode (fieldZ op)).map fun q => .byte (fun d => .rlXdR x d q)⟩,
    ⟨0xFF, 0x1E, fun _ => some (.byte (.rrXd x))⟩,
    ⟨0xF8, 0x18, fun op => (Reg8.ofCode (fieldZ op)).map fun q => .byte (fun d => .rrXdR x d q)⟩,
    ⟨0xFF, 0x26, fun _ => some (.byte (.slaXd x))⟩,
    ⟨0xF8, 0x20, fun op => (Reg8.ofCode (fieldZ op)).map fun q => .byte (fun d => .slaXdR x d q)⟩,
    ⟨0xFF, 0x2E, fun _ => some (.byte (.sraXd x))⟩,
    ⟨0xF8, 0x28, fun op => (Reg8.ofCode (fieldZ op)).map fun q => .byte (fun d => .sraXdR x d q)⟩,
    ⟨0xFF, 0x36, fun _ => some (.byte (.sllXd x))⟩,
    ⟨0xF8, 0x30, fun op => (Reg8.ofCode (fieldZ op)).map fun q => .byte (fun d => .sllXdR x d q)⟩,
    ⟨0xFF, 0x3E, fun _ => some (.byte (.srlXd x))⟩,
    ⟨0xF8, 0x38, fun op => (Reg8.ofCode (fieldZ op)).map fun q => .byte (fun d => .srlXdR x d q)⟩,
    ⟨0xC7, 0x46, fun op => some (.byte (fun d => .bitXd x d (Index8.ofCode (fieldY op))))⟩,
    ⟨0xC0, 0x40, fun op => (Reg8.ofCode (fieldZ op)).map fun z => .byte (fun d => .bitXdAlias x d (Index8.ofCode (fieldY op)) z)⟩,
    ⟨0xC7, 0x86, fun op => some (.byte (fun d => .resXd x d (Index8.ofCode (fieldY op))))⟩,
    ⟨0xC0, 0x80, fun op => (Reg8.ofCode (fieldZ op)).map fun q => .byte (fun d => .resXdR x d (Index8.ofCode (fieldY op)) q)⟩ ]

/-- The DDCB/FDCB space (R120), part 2. -/
def idxCbRows2 (x : Idx) : List Row :=
  [ ⟨0xC7, 0xC6, fun op => some (.byte (fun d => .setXd x d (Index8.ofCode (fieldY op))))⟩,
    ⟨0xC0, 0xC0, fun op => (Reg8.ofCode (fieldZ op)).map fun q => .byte (fun d => .setXdR x d (Index8.ofCode (fieldY op)) q)⟩ ]

/-- The DDCB/FDCB space (R120): the rows of opcode_table.json in their order, the first match wins (R129). -/
def idxCbRows (x : Idx) : List Row :=
  idxCbRows1 x ++ idxCbRows2 x

/-! ## Decoding -/

/-- Takes the operand bytes after the opcode, in instruction-byte order (R102, R115, R126). `size` counts the bytes
before them. -/
def Build.finish (size fetches : Nat) : Build → List Byte → Except DecodeError Decoded
  | .whole i, _ => .ok ⟨i, size, fetches⟩
  | .byte f, n :: _ => .ok ⟨f n, size + 1, fetches⟩
  | .word f, lo :: hi :: _ => .ok ⟨f (mkWord hi lo), size + 2, fetches⟩
  | .dispByte f, d :: n :: _ => .ok ⟨f d n, size + 2, fetches⟩
  | _, _ => .error .truncated

/-- Decodes the opcode byte `op` of the space `rows` and the operand bytes after it; the last arm is UNDECODED (R123). -/
def decodeRows (rows : List Row) (size fetches : Nat) (op : Byte) (rest : List Byte) : Except DecodeError Decoded :=
  match select rows op with
  | some b => b.finish size fetches rest
  | none => .error (.undecoded op)

/-- `DispatchIndex` (R100): a byte that does not use HL is peeked and the prefix falls back (R113), with one opcode fetch;
CB selects the indexed bit space, whose displacement comes before the final opcode (R115) and is its operand byte. -/
def decodeIndex (x : Idx) : List Byte → Except DecodeError Decoded
  | [] => .error .truncated
  | nxt :: rest =>
    if nxt = 0x76 then .ok ⟨.fallbackBeforeHalt x, 1, 1⟩
    else if usesHL nxt = false then .ok ⟨.prefixFallback x nxt, 1, 1⟩
    else if nxt = 0xCB then
      match rest with
      | d :: op :: rest' => decodeRows (idxCbRows x) 3 2 op (d :: rest')
      | _ => .error .truncated
    else decodeRows (idxRows x) 2 2 nxt rest

/-- `DispatchBase` (R100): the instruction at the head of the bytes. -/
def decode : List Byte → Except DecodeError Decoded
  | [] => .error .truncated
  | op :: rest =>
    if op = 0xCB then
      match rest with
      | op2 :: rest' => decodeRows cbRows 2 2 op2 rest'
      | [] => .error .truncated
    else if op = 0xED then
      match rest with
      | op2 :: rest' => decodeRows edRows 2 2 op2 rest'
      | [] => .error .truncated
    else if op = 0xDD then decodeIndex .ix rest
    else if op = 0xFD then decodeIndex .iy rest
    else decodeRows baseRows 1 1 op rest

/-- The bytes of a number, least significant first: the byte order of instruction streams (R75). -/
def bytesOf (w : Nat) : Nat → List Byte
  | 0 => []
  | k + 1 => BitVec.ofNat 8 w :: bytesOf (w / 256) k

/-- The longest instruction in bytes (R102). -/
def maxLength : Nat := 4

/-- The instruction the decoder reads from bytes given as one number, the first byte least significant; the bits above
`nbits` are 0. -/
def decodeTableWord (nbits w : Nat) : Option Instr :=
  match decode (bytesOf (w % 2 ^ nbits) maxLength) with
  | .ok d => some d.instr
  | .error _ => none

/-! ## The encoder -/

/-- The bytes of an instruction (R102, R111-R122, R126). Of an alias (NEG, RETN, IM) it gives the documented encoding. -/
def encode : Instr → List Byte
  | .nop => [0x00]
  | .ldRpNn rp nn => [0b00#2 ++ rp.code ++ 0b0001#4, loByte nn, hiByte nn]
  | .ldMBcA => [0x02]
  | .ldMDeA => [0x12]
  | .ldMNnHl nn => [0x22, loByte nn, hiByte nn]
  | .ldMNnA nn => [0x32, loByte nn, hiByte nn]
  | .incRp rp => [0b00#2 ++ rp.code ++ 0b0011#4]
  | .incMHl => [0x34]
  | .decMHl => [0x35]
  | .ldMHlN n => [0x36, n]
  | .incR r => [0b00#2 ++ r.code ++ 0b100#3]
  | .decR r => [0b00#2 ++ r.code ++ 0b101#3]
  | .ldRN r n => [0b00#2 ++ r.code ++ 0b110#3, n]
  | .rlca => [0x07]
  | .rrca => [0x0F]
  | .rla => [0x17]
  | .rra => [0x1F]
  | .daa => [0x27]
  | .cpl => [0x2F]
  | .scf => [0x37]
  | .ccf => [0x3F]
  | .exAfAf => [0x08]
  | .addHlRp rp => [0b00#2 ++ rp.code ++ 0b1001#4]
  | .ldAMBc => [0x0A]
  | .ldAMDe => [0x1A]
  | .ldHlMNn nn => [0x2A, loByte nn, hiByte nn]
  | .ldAMNn nn => [0x3A, loByte nn, hiByte nn]
  | .decRp rp => [0b00#2 ++ rp.code ++ 0b1011#4]
  | .djnz e => [0x10, e]
  | .jr e => [0x18, e]
  | .jrCc cc e => [0b001#3 ++ cc.code.setWidth 2 ++ 0b000#3, e]
  | .halt => [0x76]
  | .ldMHlR q => [0b01110#5 ++ q.code]
  | .ldRMHl r => [0b01#2 ++ r.code ++ 0b110#3]
  | .ldRR r q => [0b01#2 ++ r.code ++ q.code]
  | .addAMHl => [0x86]
  | .addAR q => [0b10000#5 ++ q.code]
  | .addAN n => [0xC6, n]
  | .adcAMHl => [0x8E]
  | .adcAR q => [0b10001#5 ++ q.code]
  | .adcAN n => [0xCE, n]
  | .subMHl => [0x96]
  | .subR q => [0b10010#5 ++ q.code]
  | .subN n => [0xD6, n]
  | .sbcAMHl => [0x9E]
  | .sbcAR q => [0b10011#5 ++ q.code]
  | .sbcAN n => [0xDE, n]
  | .andMHl => [0xA6]
  | .andR q => [0b10100#5 ++ q.code]
  | .andN n => [0xE6, n]
  | .xorMHl => [0xAE]
  | .xorR q => [0b10101#5 ++ q.code]
  | .xorN n => [0xEE, n]
  | .orMHl => [0xB6]
  | .orR q => [0b10110#5 ++ q.code]
  | .orN n => [0xF6, n]
  | .cpMHl => [0xBE]
  | .cpR q => [0b10111#5 ++ q.code]
  | .cpN n => [0xFE, n]
  | .retCc cc => [0b11#2 ++ cc.code ++ 0b000#3]
  | .popQq qq => [0b11#2 ++ qq.code ++ 0b0001#4]
  | .jpCcNn cc nn => [0b11#2 ++ cc.code ++ 0b010#3, loByte nn, hiByte nn]
  | .jpNn nn => [0xC3, loByte nn, hiByte nn]
  | .callCcNn cc nn => [0b11#2 ++ cc.code ++ 0b100#3, loByte nn, hiByte nn]
  | .pushQq qq => [0b11#2 ++ qq.code ++ 0b0101#4]
  | .rst y => [0b11#2 ++ y.code ++ 0b111#3]
  | .ret => [0xC9]
  | .callNn nn => [0xCD, loByte nn, hiByte nn]
  | .outNA n => [0xD3, n]
  | .exx => [0xD9]
  | .inAN n => [0xDB, n]
  | .exMSpHl => [0xE3]
  | .jpHl => [0xE9]
  | .exDeHl => [0xEB]
  | .di => [0xF3]
  | .ldSpHl => [0xF9]
  | .ei => [0xFB]
  | .rlcMHl => [0xCB, 0x06]
  | .rlcR q => [0xCB, 0b00000#5 ++ q.code]
  | .rrcMHl => [0xCB, 0x0E]
  | .rrcR q => [0xCB, 0b00001#5 ++ q.code]
  | .rlMHl => [0xCB, 0x16]
  | .rlR q => [0xCB, 0b00010#5 ++ q.code]
  | .rrMHl => [0xCB, 0x1E]
  | .rrR q => [0xCB, 0b00011#5 ++ q.code]
  | .slaMHl => [0xCB, 0x26]
  | .slaR q => [0xCB, 0b00100#5 ++ q.code]
  | .sraMHl => [0xCB, 0x2E]
  | .sraR q => [0xCB, 0b00101#5 ++ q.code]
  | .sllMHl => [0xCB, 0x36]
  | .sllR q => [0xCB, 0b00110#5 ++ q.code]
  | .srlMHl => [0xCB, 0x3E]
  | .srlR q => [0xCB, 0b00111#5 ++ q.code]
  | .bitMHl b => [0xCB, 0b01#2 ++ b.code ++ 0b110#3]
  | .bitR b q => [0xCB, 0b01#2 ++ b.code ++ q.code]
  | .resMHl b => [0xCB, 0b10#2 ++ b.code ++ 0b110#3]
  | .resR b q => [0xCB, 0b10#2 ++ b.code ++ q.code]
  | .setMHl b => [0xCB, 0b11#2 ++ b.code ++ 0b110#3]
  | .setR b q => [0xCB, 0b11#2 ++ b.code ++ q.code]
  | .inFC => [0xED, 0x70]
  | .inRC r => [0xED, 0b01#2 ++ r.code ++ 0b000#3]
  | .outC0 => [0xED, 0x71]
  | .outCR r => [0xED, 0b01#2 ++ r.code ++ 0b001#3]
  | .sbcHlRp rp => [0xED, 0b01#2 ++ rp.code ++ 0b0010#4]
  | .adcHlRp rp => [0xED, 0b01#2 ++ rp.code ++ 0b1010#4]
  | .ldMNnRp rp nn => [0xED, 0b01#2 ++ rp.code ++ 0b0011#4, loByte nn, hiByte nn]
  | .ldRpMNn rp nn => [0xED, 0b01#2 ++ rp.code ++ 0b1011#4, loByte nn, hiByte nn]
  | .neg => [0xED, 0x44]
  | .reti => [0xED, 0x4D]
  | .retn => [0xED, 0x45]
  | .im0 => [0xED, 0x46]
  | .im1 => [0xED, 0x56]
  | .im2 => [0xED, 0x5E]
  | .ldIA => [0xED, 0x47]
  | .ldRA => [0xED, 0x4F]
  | .ldAI => [0xED, 0x57]
  | .ldAR => [0xED, 0x5F]
  | .rrd => [0xED, 0x67]
  | .rld => [0xED, 0x6F]
  | .ldi => [0xED, 0xA0]
  | .ldir => [0xED, 0xB0]
  | .ldd => [0xED, 0xA8]
  | .lddr => [0xED, 0xB8]
  | .cpi => [0xED, 0xA1]
  | .cpir => [0xED, 0xB1]
  | .cpd => [0xED, 0xA9]
  | .cpdr => [0xED, 0xB9]
  | .ini => [0xED, 0xA2]
  | .inir => [0xED, 0xB2]
  | .ind => [0xED, 0xAA]
  | .indr => [0xED, 0xBA]
  | .outi => [0xED, 0xA3]
  | .otir => [0xED, 0xB3]
  | .outd => [0xED, 0xAB]
  | .otdr => [0xED, 0xBB]
  | .edNop op => [0xED, op]
  | .addXRp x rp => [x.prefixByte, 0b00#2 ++ rp.code ++ 0b1001#4]
  | .ldXNn x nn => [x.prefixByte, 0x21, loByte nn, hiByte nn]
  | .ldMNnX x nn => [x.prefixByte, 0x22, loByte nn, hiByte nn]
  | .incX x => [x.prefixByte, 0x23]
  | .incXH x => [x.prefixByte, 0x24]
  | .decXH x => [x.prefixByte, 0x25]
  | .ldXHN x n => [x.prefixByte, 0x26, n]
  | .ldXMNn x nn => [x.prefixByte, 0x2A, loByte nn, hiByte nn]
  | .decX x => [x.prefixByte, 0x2B]
  | .incXL x => [x.prefixByte, 0x2C]
  | .decXL x => [x.prefixByte, 0x2D]
  | .ldXLN x n => [x.prefixByte, 0x2E, n]
  | .incXd x d => [x.prefixByte, 0x34, d]
  | .decXd x d => [x.prefixByte, 0x35, d]
  | .ldXdN x d n => [x.prefixByte, 0x36, d, n]
  | .fallbackBeforeHalt x => [x.prefixByte]
  | .ldXdR x q d => [x.prefixByte, 0b01110#5 ++ q.code, d]
  | .ldRXd r x d => [x.prefixByte, 0b01#2 ++ r.code ++ 0b110#3, d]
  | .ldRXH r x => [x.prefixByte, 0b01#2 ++ r.code ++ 0b100#3]
  | .ldRXL r x => [x.prefixByte, 0b01#2 ++ r.code ++ 0b101#3]
  | .ldXHR x q => [x.prefixByte, 0b01100#5 ++ q.code]
  | .ldXLR x q => [x.prefixByte, 0b01101#5 ++ q.code]
  | .addAXd x d => [x.prefixByte, 0x86, d]
  | .addAXH x => [x.prefixByte, 0x84]
  | .addAXL x => [x.prefixByte, 0x85]
  | .adcAXd x d => [x.prefixByte, 0x8E, d]
  | .adcAXH x => [x.prefixByte, 0x8C]
  | .adcAXL x => [x.prefixByte, 0x8D]
  | .subXd x d => [x.prefixByte, 0x96, d]
  | .subXH x => [x.prefixByte, 0x94]
  | .subXL x => [x.prefixByte, 0x95]
  | .sbcAXd x d => [x.prefixByte, 0x9E, d]
  | .sbcAXH x => [x.prefixByte, 0x9C]
  | .sbcAXL x => [x.prefixByte, 0x9D]
  | .andXd x d => [x.prefixByte, 0xA6, d]
  | .andXH x => [x.prefixByte, 0xA4]
  | .andXL x => [x.prefixByte, 0xA5]
  | .xorXd x d => [x.prefixByte, 0xAE, d]
  | .xorXH x => [x.prefixByte, 0xAC]
  | .xorXL x => [x.prefixByte, 0xAD]
  | .orXd x d => [x.prefixByte, 0xB6, d]
  | .orXH x => [x.prefixByte, 0xB4]
  | .orXL x => [x.prefixByte, 0xB5]
  | .cpXd x d => [x.prefixByte, 0xBE, d]
  | .cpXH x => [x.prefixByte, 0xBC]
  | .cpXL x => [x.prefixByte, 0xBD]
  | .indexedBitSpace x d op => [x.prefixByte, 0xCB, d, op]
  | .popX x => [x.prefixByte, 0xE1]
  | .exMSpX x => [x.prefixByte, 0xE3]
  | .pushX x => [x.prefixByte, 0xE5]
  | .jpX x => [x.prefixByte, 0xE9]
  | .ldSpX x => [x.prefixByte, 0xF9]
  | .prefixFallback x _ => [x.prefixByte]
  | .rlcXd x d => [x.prefixByte, 0xCB, d, 0x06]
  | .rlcXdR x d q => [x.prefixByte, 0xCB, d, 0b00000#5 ++ q.code]
  | .rrcXd x d => [x.prefixByte, 0xCB, d, 0x0E]
  | .rrcXdR x d q => [x.prefixByte, 0xCB, d, 0b00001#5 ++ q.code]
  | .rlXd x d => [x.prefixByte, 0xCB, d, 0x16]
  | .rlXdR x d q => [x.prefixByte, 0xCB, d, 0b00010#5 ++ q.code]
  | .rrXd x d => [x.prefixByte, 0xCB, d, 0x1E]
  | .rrXdR x d q => [x.prefixByte, 0xCB, d, 0b00011#5 ++ q.code]
  | .slaXd x d => [x.prefixByte, 0xCB, d, 0x26]
  | .slaXdR x d q => [x.prefixByte, 0xCB, d, 0b00100#5 ++ q.code]
  | .sraXd x d => [x.prefixByte, 0xCB, d, 0x2E]
  | .sraXdR x d q => [x.prefixByte, 0xCB, d, 0b00101#5 ++ q.code]
  | .sllXd x d => [x.prefixByte, 0xCB, d, 0x36]
  | .sllXdR x d q => [x.prefixByte, 0xCB, d, 0b00110#5 ++ q.code]
  | .srlXd x d => [x.prefixByte, 0xCB, d, 0x3E]
  | .srlXdR x d q => [x.prefixByte, 0xCB, d, 0b00111#5 ++ q.code]
  | .bitXd x d b => [x.prefixByte, 0xCB, d, 0b01#2 ++ b.code ++ 0b110#3]
  | .bitXdAlias x d b z => [x.prefixByte, 0xCB, d, 0b01#2 ++ b.code ++ z.code]
  | .resXd x d b => [x.prefixByte, 0xCB, d, 0b10#2 ++ b.code ++ 0b110#3]
  | .resXdR x d b q => [x.prefixByte, 0xCB, d, 0b10#2 ++ b.code ++ q.code]
  | .setXd x d b => [x.prefixByte, 0xCB, d, 0b11#2 ++ b.code ++ 0b110#3]
  | .setXdR x d b q => [x.prefixByte, 0xCB, d, 0b11#2 ++ b.code ++ q.code]

/-- The byte after the instruction that its decoding peeked without consuming: only a fallen-back prefix has one (R113). -/
def lookahead : Instr → List Byte
  | .fallbackBeforeHalt _ => [0x76]
  | .prefixFallback _ nxt => [nxt]
  | _ => []

/-- How many of an instruction's bytes `FetchOpcode` fetches (R103): the opcode byte of an unprefixed instruction or a
prefix that falls back, else the prefix and the byte after it. -/
def opcodeFetches (i : Instr) : Nat :=
  match lookahead i, encode i with
  | [], op :: _ => if op = 0xCB ∨ op = 0xED ∨ op = 0xDD ∨ op = 0xFD then 2 else 1
  | _, _ => 1

end Sys2Proof
end

