-- ==== Sys2Proof/Machine/Flags.lean ====
section
/-! DEFINITION. The flag byte, the flag tables and the ALU primitives (40_alu_flags.md R150-R173): pure functions of bytes
and words. -/

namespace Sys2Proof.Machine

/-! ## The flag byte (10_state.md R45) -/

/-- The mask of the Sign flag. -/
def fS : Byte := 0x80
/-- The mask of the Zero flag. -/
def fZ : Byte := 0x40
/-- The mask of the undocumented bit 5. -/
def f5 : Byte := 0x20
/-- The mask of the Half-carry flag. -/
def fH : Byte := 0x10
/-- The mask of the undocumented bit 3. -/
def f3 : Byte := 0x08
/-- The mask of the Parity/Overflow flag. -/
def fPV : Byte := 0x04
/-- The mask of the Add/Subtract flag. -/
def fN : Byte := 0x02
/-- The mask of the Carry flag. -/
def fC : Byte := 0x01

/-- Whether a flag byte has the flag of a mask. -/
def hasFlag (f m : Byte) : Bool := f &&& m != 0

/-- The mask `m` where the condition holds, else no bit: "if … then m else 0" of the rules. -/
def flagIf (c : Bool) (m : Byte) : Byte := if c then m else 0

/-! ## The tables -/

/-- `SZ53` (R151). -/
def sz53 (v : Byte) : Byte := (v &&& 0xA8) ||| flagIf (v == 0) fZ

/-- The number of set bits. -/
def popCount (v : Byte) : Nat :=
  (v.getLsbD 0).toNat + (v.getLsbD 1).toNat + (v.getLsbD 2).toNat + (v.getLsbD 3).toNat
    + (v.getLsbD 4).toNat + (v.getLsbD 5).toNat + (v.getLsbD 6).toNat + (v.getLsbD 7).toNat

/-- `PAR` (R152). -/
def par (v : Byte) : Byte := flagIf (popCount v % 2 == 0) fPV

/-- `SZ53P` (R153). -/
def sz53p (v : Byte) : Byte := sz53 v ||| par v

/-- The carry lookup index (R154). -/
def carryIndex (a b r : Byte) : Byte := ((a &&& 0x88) >>> 3) ||| ((b &&& 0x88) >>> 2) ||| ((r &&& 0x88) >>> 1)

/-- An entry of an 8-entry table (R155). -/
def entry (table : List Byte) (index : Byte) : Byte := table.getD index.toNat 0

/-- `HC_ADD` (R155). -/
def hcAdd : Byte → Byte := entry [0, fH, fH, fH, 0, 0, 0, fH]
/-- `HC_SUB` (R155). -/
def hcSub : Byte → Byte := entry [0, 0, fH, 0, fH, 0, fH, fH]
/-- `OV_ADD` (R155). -/
def ovAdd : Byte → Byte := entry [0, 0, 0, fPV, fPV, 0, 0, 0]
/-- `OV_SUB` (R155). -/
def ovSub : Byte → Byte := entry [0, fPV, 0, 0, 0, 0, fPV, 0]

/-! ## 8-bit arithmetic and logic -/

/-- `Add8` (R157). -/
def add8 (a b : Byte) (cin : Bool) : Byte × Byte :=
  let t := a.toNat + b.toNat + cin.toNat
  let r := BitVec.ofNat 8 t
  let look := carryIndex a b r
  (r, flagIf (decide (255 < t)) fC ||| hcAdd (look &&& 7) ||| ovAdd (look >>> 4) ||| sz53 r)

/-- `Sub8` (R158). -/
def sub8 (a b : Byte) (cin : Bool) : Byte × Byte :=
  let t : Int := (a.toNat : Int) - b.toNat - cin.toNat
  let r := BitVec.ofInt 8 t
  let look := carryIndex a b r
  (r, flagIf (decide (t < 0)) fC ||| fN ||| hcSub (look &&& 7) ||| ovSub (look >>> 4) ||| sz53 r)

/-- `And8` (R159). -/
def and8 (a b : Byte) : Byte × Byte := (a &&& b, sz53p (a &&& b) ||| fH)

/-- `Xor8` (R159). -/
def xor8 (a b : Byte) : Byte × Byte := (a ^^^ b, sz53p (a ^^^ b))

/-- `Or8` (R159). -/
def or8 (a b : Byte) : Byte × Byte := (a ||| b, sz53p (a ||| b))

/-- `Cp8` (R160): only a flag byte; F5 and F3 come from the operand. -/
def cp8 (a b : Byte) : Byte := ((sub8 a b false).2 &&& 0xD7) ||| (b &&& 0x28)

/-- `Inc8` (R161). -/
def inc8 (v fin : Byte) : Byte × Byte :=
  let r := v + 1
  (r, (fin &&& fC) ||| flagIf (r == 0x80) fPV ||| flagIf (r &&& 0x0F == 0) fH ||| sz53 r)

/-- `Dec8` (R162). -/
def dec8 (v fin : Byte) : Byte × Byte :=
  let r := v - 1
  (r, (fin &&& fC) ||| fN ||| flagIf (v &&& 0x0F == 0) fH ||| flagIf (r == 0x7F) fPV ||| sz53 r)

/-! ## 16-bit arithmetic -/

/-- The index formed from bits 11 and 15 (R163-R165), as a byte. -/
def carryIndex16 (a b r : Word) : Byte := carryIndex (hiByte a) (hiByte b) (hiByte r)

/-- `Add16` (R163): H from bit 11; S, Z and PV are kept. -/
def add16 (a b : Word) (fin : Byte) : Word × Byte :=
  let r := a + b
  let look11 := carryIndex16 a b r &&& 7
  (r, (fin &&& (fS ||| fZ ||| fPV)) ||| flagIf (decide (0xFFFF < a.toNat + b.toNat)) fC
    ||| (hiByte r &&& (f5 ||| f3)) ||| hcAdd look11)

/-- `Adc16` (R164). -/
def adc16 (a b : Word) (cin : Bool) : Word × Byte :=
  let t := a.toNat + b.toNat + cin.toNat
  let r := BitVec.ofNat 16 t
  let look := carryIndex16 a b r
  (r, flagIf (decide (0xFFFF < t)) fC ||| ovAdd (look >>> 4) ||| hcAdd (look &&& 7)
    ||| (hiByte r &&& (fS ||| f5 ||| f3)) ||| flagIf (r == 0) fZ)

/-- `Sbc16` (R165). -/
def sbc16 (a b : Word) (cin : Bool) : Word × Byte :=
  let t : Int := (a.toNat : Int) - b.toNat - cin.toNat
  let r := BitVec.ofInt 16 t
  let look := carryIndex16 a b r
  (r, flagIf (decide (t < 0)) fC ||| fN ||| ovSub (look >>> 4) ||| hcSub (look &&& 7)
    ||| (hiByte r &&& (fS ||| f5 ||| f3)) ||| flagIf (r == 0) fZ)

/-! ## Rotates, shifts and bits -/

/-- The rotates and shifts (R110). -/
inductive RotOp
  | rlc | rrc | rl | rr | sla | sra | sll | srl
  deriving DecidableEq, Repr

/-- The rotate of a code (R110). -/
def RotOp.ofCode (c : BitVec 3) : RotOp :=
  match c.toNat with
  | 0 => .rlc | 1 => .rrc | 2 => .rl | 3 => .rr | 4 => .sla | 5 => .sra | 6 => .sll | _ => .srl

/-- The result of a rotate or shift (R166). -/
def rotResult (op : RotOp) (v : Byte) (cin : Bool) : Byte :=
  match op with
  | .rlc => (v <<< 1) ||| flagIf (v.getLsbD 7) 0x01
  | .rrc => (v >>> 1) ||| flagIf (v.getLsbD 0) 0x80
  | .rl => (v <<< 1) ||| flagIf cin 0x01
  | .rr => (v >>> 1) ||| flagIf cin 0x80
  | .sla => v <<< 1
  | .sra => (v >>> 1) ||| (v &&& 0x80)
  | .sll => (v <<< 1) ||| 1
  | .srl => v >>> 1

/-- The bit a rotate or shift moves out (R166): bit 7 to the left, bit 0 to the right. -/
def rotCarry (op : RotOp) (v : Byte) : Bool :=
  match op with
  | .rlc | .rl | .sla | .sll => v.getLsbD 7
  | .rrc | .rr | .sra | .srl => v.getLsbD 0

/-- `Rot` (R166). -/
def rot (op : RotOp) (v : Byte) (cin : Bool) : Byte × Byte :=
  let r := rotResult op v cin
  (r, sz53p r ||| flagIf (rotCarry op v) fC)

/-- `RotA` (R167): S, Z and PV are kept. -/
def rotA (op : RotOp) (a fin : Byte) : Byte × Byte :=
  let r := rotResult op a (hasFlag fin fC)
  (r, (fin &&& (fS ||| fZ ||| fPV)) ||| (r &&& (f5 ||| f3)) ||| flagIf (rotCarry op a) fC)

/-- `Bit` (R168): tests bit b of v; F5 and F3 come from u. -/
def bitTest (b : Index8) (v u fin : Byte) : Byte :=
  (fin &&& fC) ||| fH ||| (u &&& (f5 ||| f3)) ||| flagIf (!v.getLsbD b.val) (fZ ||| fPV)
    ||| flagIf (b == .i7 && v.getLsbD 7) fS

/-- `Set` (R169). -/
def setBit (b : Index8) (v : Byte) : Byte := v ||| ((1 : Byte) <<< b.val)

/-- `Res` (R169). -/
def resBit (b : Index8) (v : Byte) : Byte := v &&& ~~~((1 : Byte) <<< b.val)

/-! ## BCD adjust -/

/-- The correction constant of DAA (R170). -/
def daaCorrection (a f : Byte) : Byte :=
  flagIf (hasFlag f fH || decide (9 < (a &&& 0x0F).toNat)) 0x06
    ||| flagIf (hasFlag f fC || decide (0x99 < a.toNat)) 0x60

/-- `Daa` (R170). -/
def daa (a f : Byte) : Byte × Byte :=
  let k := daaCorrection a f
  let rf := if hasFlag f fN then sub8 a k false else add8 a k false
  let c := hasFlag f fC || decide (0x99 < a.toNat)
  (rf.1, (rf.2 &&& ~~~(fC ||| fPV)) ||| flagIf c fC ||| par rf.1)

/-! ## Block instructions -/

/-- `LdBlockFlags` (R171); `bcn` is BC after the decrement. -/
def ldBlockFlags (v a : Byte) (bcn : Word) (fin : Byte) : Byte :=
  let n := v + a
  (fin &&& (fS ||| fZ ||| fC)) ||| flagIf (bcn != 0) fPV ||| (n &&& f3) ||| flagIf (n.getLsbD 1) f5

/-- `CpBlockFlags` (R172); `bcn` is BC after the decrement. -/
def cpBlockFlags (v a : Byte) (bcn : Word) (fin : Byte) : Byte :=
  let r := a - v
  let h := hcSub (carryIndex a v r &&& 7)
  let f0 := (fin &&& fC) ||| fN ||| flagIf (bcn != 0) fPV ||| h ||| flagIf (r == 0) fZ ||| (r &&& fS)
  let n := if h != 0 then r - 1 else r
  f0 ||| (n &&& f3) ||| flagIf (n.getLsbD 1) f5

/-- `IoBlockFlags` (R173); `k` is the 9-bit sum and `bn` is B after the decrement. -/
def ioBlockFlags (v : Byte) (k : Nat) (bn : Byte) : Byte :=
  sz53 bn ||| flagIf (v.getLsbD 7) fN ||| flagIf (decide (255 < k)) (fH ||| fC)
    ||| par ((BitVec.ofNat 8 k &&& 7) ^^^ bn)

/-- The flags of an input byte and of RLD/RRD (R379, R316): C is kept, the rest is `SZ53P`. -/
def sz53pKeepC (v fin : Byte) : Byte := (fin &&& fC) ||| sz53p v

end Sys2Proof.Machine
end

