-- ==== Sys2Proof/Machine/State.lean ====
section
/-! DEFINITION. The state the spec gives the machine (10_state.md R30), its collaborators' state (20_memory.md R73, R91,
R95), and the reasons a step can stop. -/

namespace Sys2Proof.Machine

/-- The reference bus's memory (R91) as (address, byte) pairs; `Memory.wf` (Ops.lean) gives the canonical form. -/
abbrev Memory := List Host.Cell

/-- Eight 8-bit registers: the primary set or the shadow set (R30, R32, R33). The halves are stored and the pairs are
views of them (R31). -/
structure Bank where
  a : Byte
  f : Byte
  b : Byte
  c : Byte
  d : Byte
  e : Byte
  h : Byte
  l : Byte
  deriving DecidableEq, Repr

/-- The port device: its acknowledge inputs, which the core never clears (R73, R433), and its record of the port writes,
oldest first (R95). -/
structure PortDevice where
  /-- "non-maskable-interrupt pending" (R73). -/
  nmiPending : Bool
  /-- "maskable-interrupt pending" (R73). -/
  irqPending : Bool
  /-- The data byte presented during acknowledge; `none` when the device has none (R73, R442). -/
  ackByte : Option Byte
  /-- The port writes as events (port, value) (R95). -/
  written : List (Word × Byte)
  deriving DecidableEq, Repr

/-- The machine's state. -/
structure State where
  /-- A, F, B, C, D, E, H, L (R30). -/
  main : Bank
  /-- A', F', B', C', D', E', H', L' (R30, R33). -/
  shadow : Bank
  ix : Word
  iy : Word
  sp : Word
  pc : Word
  /-- The interrupt-vector base (R39). -/
  i : Byte
  /-- Bit 7 of the refresh register (R38). -/
  r7 : Bool
  /-- The 7-bit refresh counter (R38). -/
  rlo : BitVec 7
  iff1 : Bool
  iff2 : Bool
  /-- The interrupt mode; the value 3 is malformed (R13, R41). -/
  im : BitVec 2
  halted : Bool
  /-- Elapsed T-states (R43). -/
  cycles : Nat
  /-- The debug throttle, negative = unlimited (R44). -/
  throttle : Int
  /-- The host's next external event (R44). -/
  horizon : Nat
  mem : Memory
  ports : PortDevice
  /-- The addresses the fetch hook was called with, oldest first (R455); the model's own record, log entry 7. -/
  hooks : List Word
  /-- How many draws were taken so far: the index of the next free value; the model's own field, log entry 5. -/
  draws : Nat
  deriving DecidableEq, Repr

/-- Why the machine stops with `Fatal(reason)` (R430, R432). -/
inductive Fault
  /-- UNDECODED: raised by the dispatcher's last arm (R431). No byte sequence reaches it. Safe. -/
  | undecoded
  /-- BAD_IM: raised by maskable acceptance with IFF1 = 1 and IM = 3 (R437). The spec's own fault; safe. -/
  | badIm
  /-- IM0_NOT_RST: raised by maskable acceptance in IM 0 with a data byte that is no RST opcode, which it records (R435).
  The spec's own fault; safe. -/
  | im0NotRst (data : Byte)
  deriving DecidableEq, Repr

/-- Why an instruction has no meaning. -/
inductive Refusal
  /-- Raised by an arm of `exec` whose instruction is not modelled yet; no arm raises it now. Safe. -/
  | notModelled (mnemonic : String)
  deriving DecidableEq, Repr

/-- The outcome of a step, an instruction or a host operation. -/
abbrev Result := Host.Outcome State Fault Refusal

/-- Eight registers of zeros. -/
def Bank.zero : Bank := ⟨0, 0, 0, 0, 0, 0, 0, 0⟩

/-- The state of a new engine (R52): the power-on values of R51, throttle -1 and horizon 0. Memory lists nothing (log
entry 1); the port device's and the model's own fields are as log entries 5, 6 and 7 say. -/
def State.reset : State where
  main := { Bank.zero with a := 0xFF, f := 0xFF }
  shadow := Bank.zero
  ix := 0
  iy := 0
  sp := 0xFFFF
  pc := 0
  i := 0
  r7 := false
  rlo := 0
  iff1 := false
  iff2 := false
  im := 0
  halted := false
  cycles := 0
  throttle := -1
  horizon := 0
  mem := []
  ports := ⟨false, false, none, []⟩
  hooks := []
  draws := 0

end Sys2Proof.Machine
end

