-- ==== Sys2Proof/Machine/Ops.lean ====
section
/-! DEFINITION. The named operations over memory, registers, ports and the stack (00_scope.md R16-R20, 20_memory.md), taking
an interrupt and returning from one (60_exceptions.md R433-R446). -/

namespace Sys2Proof.Machine

/-! ## Memory as canonical data -/

/-- What an address that memory does not list reads as: DESIGN CHOICE, unsafe, log entry 1. -/
def Memory.blank : Byte := 0

/-- The canonical form from address `lo` on: addresses strictly rising, inside the 16-bit space (R70), no blank entry. -/
def Memory.wfFrom (lo : Nat) : Memory → Bool
  | [] => true
  | (k, v) :: m => decide (lo ≤ k) && decide (k < 65536) && v != Memory.blank && wfFrom (k + 1) m

/-- The canonical form. -/
def Memory.wf (m : Memory) : Bool := Memory.wfFrom 0 m

/-- The byte at an address. -/
def Memory.lookup : Memory → Nat → Byte
  | [], _ => Memory.blank
  | (k, v) :: m, a => if a = k then v else lookup m a

/-- Writes the byte at an address and keeps the canonical form. -/
def Memory.store : Memory → Nat → Byte → Memory
  | [], a, v => if v = Memory.blank then [] else [(a, v)]
  | (k, w) :: m, a, v =>
    if a < k then (if v = Memory.blank then (k, w) :: m else (a, v) :: (k, w) :: m)
    else if a = k then (if v = Memory.blank then m else (a, v) :: m)
    else (k, w) :: store m a v

/-! ## Updates of one group of fields -/

/-- Replaces the primary registers. -/
def State.withMain (s : State) (v : Bank) : State := { s with main := v }
/-- Replaces the shadow registers. -/
def State.withShadow (s : State) (v : Bank) : State := { s with shadow := v }
/-- Writes IX. -/
def State.withIx (s : State) (v : Word) : State := { s with ix := v }
/-- Writes IY. -/
def State.withIy (s : State) (v : Word) : State := { s with iy := v }
/-- Writes SP. -/
def State.withSp (s : State) (v : Word) : State := { s with sp := v }
/-- Writes PC. -/
def State.withPc (s : State) (v : Word) : State := { s with pc := v }
/-- Writes I. -/
def State.withI (s : State) (v : Byte) : State := { s with i := v }
/-- Writes R7. -/
def State.withR7 (s : State) (v : Bool) : State := { s with r7 := v }
/-- Writes the refresh counter. -/
def State.withRlo (s : State) (v : BitVec 7) : State := { s with rlo := v }
/-- Writes IFF1. -/
def State.withIff1 (s : State) (v : Bool) : State := { s with iff1 := v }
/-- Writes IFF2. -/
def State.withIff2 (s : State) (v : Bool) : State := { s with iff2 := v }
/-- Writes IM. -/
def State.withIm (s : State) (v : BitVec 2) : State := { s with im := v }
/-- Writes the halt flag. -/
def State.withHalted (s : State) (v : Bool) : State := { s with halted := v }
/-- `cycles <- v`. -/
def State.withCycles (s : State) (v : Nat) : State := { s with cycles := v }
/-- Writes the throttle. -/
def State.withThrottle (s : State) (v : Int) : State := { s with throttle := v }
/-- Writes the horizon. -/
def State.withHorizon (s : State) (v : Nat) : State := { s with horizon := v }
/-- Replaces memory. -/
def State.withMem (s : State) (v : Memory) : State := { s with mem := v }
/-- Replaces the port device's state. -/
def State.withPorts (s : State) (v : PortDevice) : State := { s with ports := v }
/-- Replaces the record of the fetch hook's calls. -/
def State.withHooks (s : State) (v : List Word) : State := { s with hooks := v }
/-- Replaces the count of draws. -/
def State.withDraws (s : State) (v : Nat) : State := { s with draws := v }

/-- `cycles += n` (R20, R480). -/
def State.tick (s : State) (n : Nat) : State := s.withCycles (s.cycles + n)

/-- Ends an instruction with the cost of the path taken (R100). -/
def done (cost : Nat) (s : State) : Result := .next (s.tick cost)

/-! ## Registers -/

/-- Reads a register of a bank. -/
def Bank.get (k : Bank) : Reg8 → Byte
  | .b => k.b | .c => k.c | .d => k.d | .e => k.e | .h => k.h | .l => k.l | .a => k.a

/-- Writes a register of a bank. -/
def Bank.set (k : Bank) (r : Reg8) (v : Byte) : Bank :=
  match r with
  | .b => { k with b := v } | .c => { k with c := v } | .d => { k with d := v } | .e => { k with e := v }
  | .h => { k with h := v } | .l => { k with l := v } | .a => { k with a := v }

/-- A (R32). -/
abbrev State.a (s : State) : Byte := s.main.a

/-- F (R45). -/
abbrev State.f (s : State) : Byte := s.main.f

/-- The carry flag F.C (R45). -/
def State.carry (s : State) : Bool := hasFlag s.f fC

/-- Reads a register r (R16, R106). -/
def State.reg (s : State) (r : Reg8) : Byte := s.main.get r

/-- Writes a register r (R16). -/
def State.setReg (s : State) (r : Reg8) (v : Byte) : State := s.withMain (s.main.set r v)

/-- Writes A. -/
def State.setA (s : State) (v : Byte) : State := s.withMain { s.main with a := v }

/-- Writes F, all eight bits (R46). -/
def State.setF (s : State) (v : Byte) : State := s.withMain { s.main with f := v }

/-- Writes A and F: `(A, F) <- …`. -/
def State.setAF (s : State) (af : Byte × Byte) : State := (s.setA af.1).setF af.2

/-- BC (R31). -/
def State.bc (s : State) : Word := mkWord s.main.b s.main.c
/-- DE (R31). -/
def State.de (s : State) : Word := mkWord s.main.d s.main.e
/-- HL (R31). -/
def State.hl (s : State) : Word := mkWord s.main.h s.main.l
/-- AF (R31). -/
def State.af (s : State) : Word := mkWord s.main.a s.main.f

/-- Writes BC: both halves (R31). -/
def State.setBc (s : State) (w : Word) : State := s.withMain { s.main with b := hiByte w, c := loByte w }
/-- Writes DE: both halves (R31). -/
def State.setDe (s : State) (w : Word) : State := s.withMain { s.main with d := hiByte w, e := loByte w }
/-- Writes HL: both halves (R31). -/
def State.setHl (s : State) (w : Word) : State := s.withMain { s.main with h := hiByte w, l := loByte w }
/-- Writes AF: both halves (R31). -/
def State.setAf (s : State) (w : Word) : State := s.withMain { s.main with a := hiByte w, f := loByte w }

/-- Reads the index register X (R34). -/
def State.idx (s : State) : Idx → Word
  | .ix => s.ix
  | .iy => s.iy

/-- Writes the index register X (R34). -/
def State.setIdx (s : State) (x : Idx) (v : Word) : State :=
  match x with
  | .ix => s.withIx v
  | .iy => s.withIy v

/-- Reads a pair rp (R107). -/
def State.pair (s : State) : RegPair → Word
  | .bc => s.bc | .de => s.de | .hl => s.hl | .sp => s.sp

/-- Writes a pair rp (R107). -/
def State.setPair (s : State) (rp : RegPair) (v : Word) : State :=
  match rp with
  | .bc => s.setBc v | .de => s.setDe v | .hl => s.setHl v | .sp => s.withSp v

/-- Reads a pair rp2 (R107). -/
def State.stackPair (s : State) : StackPair → Word
  | .bc => s.bc | .de => s.de | .hl => s.hl | .af => s.af

/-- Writes a pair rp2 (R107). -/
def State.setStackPair (s : State) (qq : StackPair) (v : Word) : State :=
  match qq with
  | .bc => s.setBc v | .de => s.setDe v | .hl => s.setHl v | .af => s.setAf v

/-- The view R = R7:Rlo (R38). -/
def State.refresh (s : State) : Byte := (BitVec.ofBool s.r7 ++ s.rlo : BitVec (1 + 7))

/-- `R7 <- v[7]; Rlo <- v[6:0]` (R38, R214). -/
def State.setRefresh (s : State) (v : Byte) : State := (s.withR7 (v.getLsbD 7)).withRlo (v.extractLsb' 0 7)

/-- Increments the refresh counter `n` times; R7 stays (R38). -/
def State.countRefresh (s : State) (n : Nat) : State := s.withRlo (s.rlo + BitVec.ofNat 7 n)

/-! ## The bus, the stack and the ports -/

/-- `MemRead(addr, 1)` on the reference bus (R17, R91). -/
def State.readByte (s : State) (a : Word) : Byte := s.mem.lookup a.toNat

/-- `MemWrite(addr, 1, v)` on the reference bus (R17, R91). -/
def State.writeByte (s : State) (a : Word) (v : Byte) : State := s.withMem (s.mem.store a.toNat v)

/-- `MemRead(addr, 2)`: little-endian, wrapping (R17, R74, R77). -/
def State.readWord (s : State) (a : Word) : Word := mkWord (s.readByte (a + 1)) (s.readByte a)

/-- `MemWrite(addr, 2, v)`: the low byte at `addr`, then the high byte at `addr + 1` (R17, R74, R91). -/
def State.writeWord (s : State) (a : Word) (v : Word) : State := (s.writeByte a (loByte v)).writeByte (a + 1) (hiByte v)

/-- `Push(v)` (R19). -/
def State.push (s : State) (v : Word) : State := (s.withSp (s.sp - 2)).writeWord (s.sp - 2) v

/-- The word `Pop()` returns (R19). -/
def State.top (s : State) : Word := s.readWord s.sp

/-- What `Pop()` does to SP (R19). -/
def State.dropTop (s : State) : State := s.withSp (s.sp + 2)

/-- `PortRead(p)`: the port device's answer, a draw (R17, R95); log entry 3. -/
def State.portRead (s : State) (p : Word) : Byte := Config.portIn s.draws p

/-- Counts one draw as taken (log entry 5). -/
def State.drawn (s : State) : State := s.withDraws (s.draws + 1)

/-- `PortWrite(p, v)`: recorded as an event (R17, R95). -/
def State.portWrite (s : State) (p : Word) (v : Byte) : State :=
  s.withPorts { s.ports with written := s.ports.written ++ [(p, v)] }

/-- The port address of the (n) forms, `A:n` (R72). -/
def State.portAn (s : State) (n : Byte) : Word := mkWord s.a n

/-- The draw `bit_hl_undoc` (R12, R309); log entry 4. -/
def State.bitHlDraw (s : State) : Byte := Config.bitHlUndoc s.draws

/-! ## Taking an interrupt and returning from one -/

/-- What both acceptances do before they vector: `halted <- 0`, one refresh increment, `Push(PC)` (R434, R436). -/
def State.enterHandler (s : State) : State :=
  let s1 := (s.withHalted false).countRefresh 1
  s1.push s1.pc

/-- `AcceptNMI` (R436): IFF1 is cleared and IFF2 keeps its value. -/
def acceptNmi (s : State) : Result :=
  done 11 (((s.withIff1 false).enterHandler).withPc Config.nmiVector)

/-- The address a maskable acceptance vectors to and its cost, in the state after the push: IM 0 the restart address of
the data byte (R435), IM 1 the fixed address (R439), IM 2 the table entry at `I:data` (R438). -/
def State.vector (s : State) (data : Byte) : Word × Nat :=
  if s.im = 0 then (BitVec.setWidth 16 (data &&& 0x38), 13)
  else if s.im = 1 then (Config.im1Vector, 13)
  else (s.readWord (mkWord s.i data), 19)

/-- `AcceptMaskable(data)` (R434): the faults come before any write (R435, R437, R441). -/
def acceptMaskable (data : Byte) (s : State) : Result :=
  if s.im = 3 then .fault .badIm
  else if s.im = 0 ∧ data &&& 0xC7 ≠ 0xC7 then .fault (.im0NotRst data)
  else
    let s1 := ((s.withIff1 false).withIff2 false).enterHandler
    let v := s1.vector data
    done v.2 (s1.withPc v.1)

/-- `Accept(nmi, irq, data)` (R433): the NMI has priority (R441); a maskable request with IFF1 = 0 changes nothing (R445). -/
def accept (nmi irq : Bool) (data : Byte) (s : State) : Result :=
  if nmi then acceptNmi s
  else if irq && s.iff1 then acceptMaskable data s
  else .next s

/-- `PC <- Pop()` (R348). -/
def State.returnPc (s : State) : State := (s.dropTop).withPc s.top

/-- The return from an interrupt, of RETN and RETI: `PC <- Pop(); IFF1 <- IFF2` (R399, R400, R446). -/
def State.returnFromInterrupt (s : State) : State := (s.returnPc).withIff1 s.iff2

end Sys2Proof.Machine
end

