-- ==== Sys2Proof/Machine/Operands.lean ====
section
/-! DEFINITION. The operand forms (30_encoding.md R106-R108, R112-R116; 40_alu_flags.md R156) and the conditions. -/

namespace Sys2Proof.Machine

/-- The high half of X (R34). -/
def State.xh (s : State) (x : Idx) : Byte := hiByte (s.idx x)

/-- The low half of X (R34). -/
def State.xl (s : State) (x : Idx) : Byte := loByte (s.idx x)

/-- Writes the high half of X, the low half stays (R31). -/
def State.setXh (s : State) (x : Idx) (v : Byte) : State := s.setIdx x (mkWord v (s.xl x))

/-- Writes the low half of X, the high half stays (R31). -/
def State.setXl (s : State) (x : Idx) (v : Byte) : State := s.setIdx x (mkWord (s.xh x) v)

/-- `EA = (X + sext_8(d)) mod 2^16` (R115). -/
def State.ea (s : State) (x : Idx) (d : Byte) : Word := s.idx x + d.signExtend 16

/-- The pair rp under a prefix: HL means X itself (R107, R112). -/
def State.pairX (s : State) (x : Idx) (rp : RegPair) : Word :=
  match rp with
  | .hl => s.idx x
  | .bc => s.bc
  | .de => s.de
  | .sp => s.sp

/-- A resolved 8-bit operand (R156): a register, a half of X, or a memory address. -/
inductive Operand
  | reg (r : Reg8)
  | xh (x : Idx)
  | xl (x : Idx)
  | mem (a : Word)
  deriving DecidableEq, Repr

/-- The register operand r under a prefix, when no memory operand suppresses the substitution: codes 4 and 5 mean XH and
XL (R112, R116). -/
def Operand.substituted (x : Idx) : Reg8 → Operand
  | .h => .xh x
  | .l => .xl x
  | r => .reg r

/-- `ReadOp` (R156). -/
def State.readOp (s : State) : Operand → Byte
  | .reg r => s.reg r
  | .xh x => s.xh x
  | .xl x => s.xl x
  | .mem a => s.readByte a

/-- `WriteOp` (R156). -/
def State.writeOp (s : State) (o : Operand) (v : Byte) : State :=
  match o with
  | .reg r => s.setReg r v
  | .xh x => s.setXh x v
  | .xl x => s.setXl x v
  | .mem a => s.writeByte a v

/-- `cond(cc)` (R108). -/
def State.cond (s : State) : Cond → Bool
  | .nz => !hasFlag s.f fZ
  | .z => hasFlag s.f fZ
  | .nc => !hasFlag s.f fC
  | .c => hasFlag s.f fC
  | .po => !hasFlag s.f fPV
  | .pe => hasFlag s.f fPV
  | .p => !hasFlag s.f fS
  | .m => hasFlag s.f fS

/-- `PC <- (PC + sext_8(e)) mod 2^16` (R342). -/
def State.jumpRelative (s : State) (e : Byte) : State := s.withPc (s.pc + e.signExtend 16)

/-! ## The 8-bit accumulator group on a resolved operand value (42_arith_logic.md R250-R257) -/

/-- `(A, F) <- Add8(A, v, 0)` (R250). -/
def State.addA (s : State) (v : Byte) : State := s.setAF (add8 s.a v false)
/-- `(A, F) <- Add8(A, v, F.C)` (R251). -/
def State.adcA (s : State) (v : Byte) : State := s.setAF (add8 s.a v s.carry)
/-- `(A, F) <- Sub8(A, v, 0)` (R252). -/
def State.subA (s : State) (v : Byte) : State := s.setAF (sub8 s.a v false)
/-- `(A, F) <- Sub8(A, v, F.C)` (R253). -/
def State.sbcA (s : State) (v : Byte) : State := s.setAF (sub8 s.a v s.carry)
/-- `(A, F) <- And8(A, v)` (R254). -/
def State.andA (s : State) (v : Byte) : State := s.setAF (and8 s.a v)
/-- `(A, F) <- Xor8(A, v)` (R255). -/
def State.xorA (s : State) (v : Byte) : State := s.setAF (xor8 s.a v)
/-- `(A, F) <- Or8(A, v)` (R256). -/
def State.orA (s : State) (v : Byte) : State := s.setAF (or8 s.a v)
/-- `F <- Cp8(A, v)`; A is unchanged (R257). -/
def State.cpA (s : State) (v : Byte) : State := s.setF (cp8 s.a v)

/-! ## Read-modify-write of an operand -/

/-- `(o, F) <- Inc8(o, F)` (R258, R259). -/
def State.incOp (s : State) (o : Operand) : State :=
  let rf := inc8 (s.readOp o) s.f
  (s.setF rf.2).writeOp o rf.1

/-- `(o, F) <- Dec8(o, F)` (R260, R261). -/
def State.decOp (s : State) (o : Operand) : State :=
  let rf := dec8 (s.readOp o) s.f
  (s.setF rf.2).writeOp o rf.1

/-- `(o, F) <- Rot(op, o, F.C)` (R300-R307). -/
def State.rotOp (s : State) (op : RotOp) (o : Operand) : State :=
  let rf := rot op (s.readOp o) s.carry
  (s.setF rf.2).writeOp o rf.1

/-- `o <- Set(b, o)` (R310). -/
def State.setOp (s : State) (b : Index8) (o : Operand) : State := s.writeOp o (setBit b (s.readOp o))

/-- `o <- Res(b, o)` (R311). -/
def State.resOp (s : State) (b : Index8) (o : Operand) : State := s.writeOp o (resBit b (s.readOp o))

/-- The register copy of the indexed bit space: `if z ≠ 6 and ixcb_copy_to_register: r[z] <- res`, the plain register
(R312). -/
def State.copyTo (s : State) (copy : Option Reg8) (v : Byte) : State :=
  match copy with
  | some r => if Config.ixcbCopyToRegister then s.setReg r v else s
  | none => s

/-- A rotate or shift of the indexed bit space (R312): memory is written, then the copy. -/
def State.xcRot (s : State) (op : RotOp) (ea : Word) (copy : Option Reg8) : State :=
  let rf := rot op (s.readByte ea) s.carry
  ((s.setF rf.2).writeByte ea rf.1).copyTo copy rf.1

/-- RES of the indexed bit space (R312). -/
def State.xcRes (s : State) (b : Index8) (ea : Word) (copy : Option Reg8) : State :=
  let v := resBit b (s.readByte ea)
  (s.writeByte ea v).copyTo copy v

/-- SET of the indexed bit space (R312). -/
def State.xcSet (s : State) (b : Index8) (ea : Word) (copy : Option Reg8) : State :=
  let v := setBit b (s.readByte ea)
  (s.writeByte ea v).copyTo copy v

/-- BIT of the indexed bit space: F5 and F3 come from the high byte of the address (R309, R312). -/
def State.xcBit (s : State) (b : Index8) (ea : Word) : State := s.setF (bitTest b (s.readByte ea) (hiByte ea) s.f)

end Sys2Proof.Machine
end

