-- ==== Sys2Proof/Machine/Accumulator.lean ====
section
/-! DEFINITION. The accumulator and flag specials and the accumulator rotates (42_arith_logic.md R262-R266, R272-R275). -/

namespace Sys2Proof.Machine

/-- DAA (R262). -/
def execDaa (s : State) : Result := done 4 (s.setAF (daa s.a s.f))

/-- CPL (R263). -/
def execCpl (s : State) : Result :=
  let a := s.a ^^^ 0xFF
  done 4 (s.setAF (a, (s.f &&& (fS ||| fZ ||| fPV ||| fC)) ||| (a &&& (f5 ||| f3)) ||| fH ||| fN))

/-- NEG (R264). -/
def execNeg (s : State) : Result := done 8 (s.setAF (sub8 0 s.a false))

/-- CCF (R265). -/
def execCcf (s : State) : Result :=
  done 4 (s.setF ((s.f &&& (fS ||| fZ ||| fPV)) ||| (if s.carry then fH else fC) ||| (s.a &&& (f5 ||| f3))))

/-- SCF (R266). -/
def execScf (s : State) : Result :=
  done 4 (s.setF ((s.f &&& (fS ||| fZ ||| fPV)) ||| (s.a &&& (f5 ||| f3)) ||| fC))

/-- RLCA (R272). -/
def execRlca (s : State) : Result := done 4 (s.setAF (rotA .rlc s.a s.f))

/-- RLA (R273). -/
def execRla (s : State) : Result := done 4 (s.setAF (rotA .rl s.a s.f))

/-- RRCA (R274). -/
def execRrca (s : State) : Result := done 4 (s.setAF (rotA .rrc s.a s.f))

/-- RRA (R275). -/
def execRra (s : State) : Result := done 4 (s.setAF (rotA .rr s.a s.f))

end Sys2Proof.Machine
end

