-- ==== Sys2Proof/Machine/Alu.lean ====
section
/-! DEFINITION. The 8-bit accumulator group, five operand forms each (42_arith_logic.md R250-R257). -/

namespace Sys2Proof.Machine

/-- ADD A,s (R250). -/
def execAddAR (q : Reg8) (s : State) : Result := done 4 (s.addA (s.reg q))

/-- ADD A,(HL) (R250). -/
def execAddAMHl (s : State) : Result := done 7 (s.addA (s.readByte s.hl))

/-- ADD A,n (R250). -/
def execAddAN (n : Byte) (s : State) : Result := done 7 (s.addA n)

/-- ADD A,(X+d) (R250). -/
def execAddAXd (x : Idx) (d : Byte) (s : State) : Result := done 19 (s.addA (s.readByte (s.ea x d)))

/-- ADD A,XH (R250). -/
def execAddAXH (x : Idx) (s : State) : Result := done 8 (s.addA (s.xh x))

/-- ADD A,XL (R250). -/
def execAddAXL (x : Idx) (s : State) : Result := done 8 (s.addA (s.xl x))

/-- ADC A,s (R251). -/
def execAdcAR (q : Reg8) (s : State) : Result := done 4 (s.adcA (s.reg q))

/-- ADC A,(HL) (R251). -/
def execAdcAMHl (s : State) : Result := done 7 (s.adcA (s.readByte s.hl))

/-- ADC A,n (R251). -/
def execAdcAN (n : Byte) (s : State) : Result := done 7 (s.adcA n)

/-- ADC A,(X+d) (R251). -/
def execAdcAXd (x : Idx) (d : Byte) (s : State) : Result := done 19 (s.adcA (s.readByte (s.ea x d)))

/-- ADC A,XH (R251). -/
def execAdcAXH (x : Idx) (s : State) : Result := done 8 (s.adcA (s.xh x))

/-- ADC A,XL (R251). -/
def execAdcAXL (x : Idx) (s : State) : Result := done 8 (s.adcA (s.xl x))

/-- SUB s (R252). -/
def execSubR (q : Reg8) (s : State) : Result := done 4 (s.subA (s.reg q))

/-- SUB (HL) (R252). -/
def execSubMHl (s : State) : Result := done 7 (s.subA (s.readByte s.hl))

/-- SUB n (R252). -/
def execSubN (n : Byte) (s : State) : Result := done 7 (s.subA n)

/-- SUB (X+d) (R252). -/
def execSubXd (x : Idx) (d : Byte) (s : State) : Result := done 19 (s.subA (s.readByte (s.ea x d)))

/-- SUB XH (R252). -/
def execSubXH (x : Idx) (s : State) : Result := done 8 (s.subA (s.xh x))

/-- SUB XL (R252). -/
def execSubXL (x : Idx) (s : State) : Result := done 8 (s.subA (s.xl x))

/-- SBC A,s (R253). -/
def execSbcAR (q : Reg8) (s : State) : Result := done 4 (s.sbcA (s.reg q))

/-- SBC A,(HL) (R253). -/
def execSbcAMHl (s : State) : Result := done 7 (s.sbcA (s.readByte s.hl))

/-- SBC A,n (R253). -/
def execSbcAN (n : Byte) (s : State) : Result := done 7 (s.sbcA n)

/-- SBC A,(X+d) (R253). -/
def execSbcAXd (x : Idx) (d : Byte) (s : State) : Result := done 19 (s.sbcA (s.readByte (s.ea x d)))

/-- SBC A,XH (R253). -/
def execSbcAXH (x : Idx) (s : State) : Result := done 8 (s.sbcA (s.xh x))

/-- SBC A,XL (R253). -/
def execSbcAXL (x : Idx) (s : State) : Result := done 8 (s.sbcA (s.xl x))

/-- AND s (R254). -/
def execAndR (q : Reg8) (s : State) : Result := done 4 (s.andA (s.reg q))

/-- AND (HL) (R254). -/
def execAndMHl (s : State) : Result := done 7 (s.andA (s.readByte s.hl))

/-- AND n (R254). -/
def execAndN (n : Byte) (s : State) : Result := done 7 (s.andA n)

/-- AND (X+d) (R254). -/
def execAndXd (x : Idx) (d : Byte) (s : State) : Result := done 19 (s.andA (s.readByte (s.ea x d)))

/-- AND XH (R254). -/
def execAndXH (x : Idx) (s : State) : Result := done 8 (s.andA (s.xh x))

/-- AND XL (R254). -/
def execAndXL (x : Idx) (s : State) : Result := done 8 (s.andA (s.xl x))

/-- XOR s (R255). -/
def execXorR (q : Reg8) (s : State) : Result := done 4 (s.xorA (s.reg q))

/-- XOR (HL) (R255). -/
def execXorMHl (s : State) : Result := done 7 (s.xorA (s.readByte s.hl))

/-- XOR n (R255). -/
def execXorN (n : Byte) (s : State) : Result := done 7 (s.xorA n)

/-- XOR (X+d) (R255). -/
def execXorXd (x : Idx) (d : Byte) (s : State) : Result := done 19 (s.xorA (s.readByte (s.ea x d)))

/-- XOR XH (R255). -/
def execXorXH (x : Idx) (s : State) : Result := done 8 (s.xorA (s.xh x))

/-- XOR XL (R255). -/
def execXorXL (x : Idx) (s : State) : Result := done 8 (s.xorA (s.xl x))

/-- OR s (R256). -/
def execOrR (q : Reg8) (s : State) : Result := done 4 (s.orA (s.reg q))

/-- OR (HL) (R256). -/
def execOrMHl (s : State) : Result := done 7 (s.orA (s.readByte s.hl))

/-- OR n (R256). -/
def execOrN (n : Byte) (s : State) : Result := done 7 (s.orA n)

/-- OR (X+d) (R256). -/
def execOrXd (x : Idx) (d : Byte) (s : State) : Result := done 19 (s.orA (s.readByte (s.ea x d)))

/-- OR XH (R256). -/
def execOrXH (x : Idx) (s : State) : Result := done 8 (s.orA (s.xh x))

/-- OR XL (R256). -/
def execOrXL (x : Idx) (s : State) : Result := done 8 (s.orA (s.xl x))

/-- CP s (R257). -/
def execCpR (q : Reg8) (s : State) : Result := done 4 (s.cpA (s.reg q))

/-- CP (HL) (R257). -/
def execCpMHl (s : State) : Result := done 7 (s.cpA (s.readByte s.hl))

/-- CP n (R257). -/
def execCpN (n : Byte) (s : State) : Result := done 7 (s.cpA n)

/-- CP (X+d) (R257). -/
def execCpXd (x : Idx) (d : Byte) (s : State) : Result := done 19 (s.cpA (s.readByte (s.ea x d)))

/-- CP XH (R257). -/
def execCpXH (x : Idx) (s : State) : Result := done 8 (s.cpA (s.xh x))

/-- CP XL (R257). -/
def execCpXL (x : Idx) (s : State) : Result := done 8 (s.cpA (s.xl x))

end Sys2Proof.Machine
end

