-- ==== Sys2Proof/Machine/Arith16.lean ====
section
/-! DEFINITION. The 16-bit arithmetic (42_arith_logic.md R267-R271). -/

namespace Sys2Proof.Machine

/-- ADD HL,rp (R267). -/
def execAddHlRp (rp : RegPair) (s : State) : Result :=
  let rf := add16 s.hl (s.pair rp) s.f
  done 11 ((s.setHl rf.1).setF rf.2)

/-- ADD X,rp (R267: rp = 2 is X itself). -/
def execAddXRp (x : Idx) (rp : RegPair) (s : State) : Result :=
  let rf := add16 (s.idx x) (s.pairX x rp) s.f
  done 15 ((s.setIdx x rf.1).setF rf.2)

/-- ADC HL,rp (R268). -/
def execAdcHlRp (rp : RegPair) (s : State) : Result :=
  let rf := adc16 s.hl (s.pair rp) s.carry
  done 15 ((s.setHl rf.1).setF rf.2)

/-- SBC HL,rp (R269). -/
def execSbcHlRp (rp : RegPair) (s : State) : Result :=
  let rf := sbc16 s.hl (s.pair rp) s.carry
  done 15 ((s.setHl rf.1).setF rf.2)

/-- INC rp (R270). -/
def execIncRp (rp : RegPair) (s : State) : Result := done 6 (s.setPair rp (s.pair rp + 1))

/-- INC X (R270). -/
def execIncX (x : Idx) (s : State) : Result := done 10 (s.setIdx x (s.idx x + 1))

/-- DEC rp (R271). -/
def execDecRp (rp : RegPair) (s : State) : Result := done 6 (s.setPair rp (s.pair rp - 1))

/-- DEC X (R271). -/
def execDecX (x : Idx) (s : State) : Result := done 10 (s.setIdx x (s.idx x - 1))

end Sys2Proof.Machine
end

