-- ==== Sys2Proof/Machine/Bits.lean ====
section
/-! DEFINITION. BIT, SET and RES of the CB space (43_bit_rotate.md R308-R311). -/

namespace Sys2Proof.Machine

/-- BIT b,s (R308). -/
def execBitR (b : Index8) (q : Reg8) (s : State) : Result := done 8 (s.setF (bitTest b (s.reg q) (s.reg q) s.f))

/-- BIT b,(HL) (R309: F5 and F3 come from a draw, log entry 4). -/
def execBitMHl (b : Index8) (s : State) : Result := done 12 ((s.setF (bitTest b (s.readByte s.hl) s.bitHlDraw s.f)).drawn)

/-- SET b,s (R310). -/
def execSetR (b : Index8) (q : Reg8) (s : State) : Result := done 8 (s.setOp b (.reg q))

/-- SET b,(HL) (R310). -/
def execSetMHl (b : Index8) (s : State) : Result := done 15 (s.setOp b (.mem s.hl))

/-- RES b,s (R311). -/
def execResR (b : Index8) (q : Reg8) (s : State) : Result := done 8 (s.resOp b (.reg q))

/-- RES b,(HL) (R311). -/
def execResMHl (b : Index8) (s : State) : Result := done 15 (s.resOp b (.mem s.hl))

end Sys2Proof.Machine
end

