-- ==== Sys2Proof/Machine/Blocks.lean ====
section
/-! DEFINITION. The block instructions (45_block_io_system.md R370-R377, R381-R384, R388-R391, R402): one element a step. -/

namespace Sys2Proof.Machine

/-- The end of a repeating block instruction (R402): it rewinds PC to its own prefix and costs 21, or costs 16. -/
def finishBlock (again : Bool) (s : State) : Result :=
  if again then done 21 (s.withPc (s.pc - 2)) else done 16 s

/-- One element of a block transfer (R370, R372): `δ` is +1 or -1. -/
def State.blockLd (s : State) (δ : Word) : State :=
  let v := s.readByte s.hl
  let s1 := s.writeByte s.de v
  let s2 := ((s1.setHl (s.hl + δ)).setDe (s.de + δ)).setBc (s.bc - 1)
  s2.setF (ldBlockFlags v s.a (s.bc - 1) s.f)

/-- One element of a block compare (R374, R376): `δ` is +1 or -1. -/
def State.blockCp (s : State) (δ : Word) : State :=
  let v := s.readByte s.hl
  ((s.setHl (s.hl + δ)).setBc (s.bc - 1)).setF (cpBlockFlags v s.a (s.bc - 1) s.f)

/-- Whether a block compare goes on: `BC ≠ 0 and A ≠ v`, BC after the decrement (R375, R402). -/
def State.cpGoesOn (s : State) : Bool := s.bc - 1 != 0 && s.a != s.readByte s.hl

/-- One element of a block input (R381, R383): `δ` steps HL, `γ` is the +1 or -1 that goes with C into k. The port is BC
before the decrement. -/
def State.blockIn (s : State) (δ : Word) (γ : Byte) : State :=
  let v := s.portRead s.bc
  let b := s.reg .b - 1
  let s1 := (s.drawn).writeByte s.hl v
  let s2 := (s1.setReg .b b).setHl (s.hl + δ)
  s2.setF (ioBlockFlags v (v.toNat + (s.reg .c + γ).toNat) b)

/-- One element of a block output (R388, R390): `δ` steps HL. The port is BC after the decrement, and k takes L after the
step of HL. -/
def State.blockOut (s : State) (δ : Word) : State :=
  let v := s.readByte s.hl
  let b := s.reg .b - 1
  let s1 := s.setReg .b b
  let s2 := (s1.portWrite s1.bc v).setHl (s.hl + δ)
  s2.setF (ioBlockFlags v (v.toNat + (loByte (s.hl + δ)).toNat) b)

/-- LDI (R370). -/
def execLdi (s : State) : Result := done 16 (s.blockLd 1)

/-- LDIR (R371). -/
def execLdir (s : State) : Result := finishBlock (s.bc - 1 != 0) (s.blockLd 1)

/-- LDD (R372). -/
def execLdd (s : State) : Result := done 16 (s.blockLd (-1))

/-- LDDR (R373). -/
def execLddr (s : State) : Result := finishBlock (s.bc - 1 != 0) (s.blockLd (-1))

/-- CPI (R374). -/
def execCpi (s : State) : Result := done 16 (s.blockCp 1)

/-- CPIR (R375). -/
def execCpir (s : State) : Result := finishBlock s.cpGoesOn (s.blockCp 1)

/-- CPD (R376). -/
def execCpd (s : State) : Result := done 16 (s.blockCp (-1))

/-- CPDR (R377). -/
def execCpdr (s : State) : Result := finishBlock s.cpGoesOn (s.blockCp (-1))

/-- INI (R381). -/
def execIni (s : State) : Result := done 16 (s.blockIn 1 1)

/-- INIR (R382). -/
def execInir (s : State) : Result := finishBlock (s.reg .b - 1 != 0) (s.blockIn 1 1)

/-- IND (R383). -/
def execInd (s : State) : Result := done 16 (s.blockIn (-1) (-1))

/-- INDR (R384). -/
def execIndr (s : State) : Result := finishBlock (s.reg .b - 1 != 0) (s.blockIn (-1) (-1))

/-- OUTI (R388). -/
def execOuti (s : State) : Result := done 16 (s.blockOut 1)

/-- OTIR (R389). -/
def execOtir (s : State) : Result := finishBlock (s.reg .b - 1 != 0) (s.blockOut 1)

/-- OUTD (R390). -/
def execOutd (s : State) : Result := done 16 (s.blockOut (-1))

/-- OTDR (R391). -/
def execOtdr (s : State) : Result := finishBlock (s.reg .b - 1 != 0) (s.blockOut (-1))

end Sys2Proof.Machine
end

