-- ==== Sys2Proof/Machine/Control.lean ====
section
/-! DEFINITION. The control transfers (44_control.md R340-R350). PC is the address after the instruction: the step has fetched all its bytes. -/

namespace Sys2Proof.Machine

/-- JP nn (R340). -/
def execJpNn (nn : Word) (s : State) : Result := done 10 (s.withPc nn)

/-- JP cc,nn (R341). -/
def execJpCcNn (cc : Cond) (nn : Word) (s : State) : Result := done 10 (if s.cond cc then s.withPc nn else s)

/-- JR e (R342). -/
def execJr (e : Byte) (s : State) : Result := done 12 (s.jumpRelative e)

/-- JR cc,e (R343). -/
def execJrCc (cc : Cond) (e : Byte) (s : State) : Result := if s.cond cc then done 12 (s.jumpRelative e) else done 7 s

/-- JP (HL) (R344). -/
def execJpHl (s : State) : Result := done 4 (s.withPc s.hl)

/-- JP (X) (R344). -/
def execJpX (x : Idx) (s : State) : Result := done 8 (s.withPc (s.idx x))

/-- DJNZ e (R345). -/
def execDjnz (e : Byte) (s : State) : Result :=
  let b := s.reg .b - 1
  let s1 := s.setReg .b b
  if b ≠ 0 then done 13 (s1.jumpRelative e) else done 8 s1

/-- CALL nn (R346). -/
def execCallNn (nn : Word) (s : State) : Result := done 17 ((s.push s.pc).withPc nn)

/-- CALL cc,nn (R347). -/
def execCallCcNn (cc : Cond) (nn : Word) (s : State) : Result := if s.cond cc then done 17 ((s.push s.pc).withPc nn) else done 10 s

/-- RET (R348). -/
def execRet (s : State) : Result := done 10 s.returnPc

/-- RET cc (R349). -/
def execRetCc (cc : Cond) (s : State) : Result := if s.cond cc then done 11 s.returnPc else done 5 s

/-- RST p (R350). -/
def execRst (y : Index8) (s : State) : Result := done 11 ((s.push s.pc).withPc (BitVec.ofNat 16 (y.val * 8)))

end Sys2Proof.Machine
end

