-- ==== Sys2Proof/Machine/Exchanges.lean ====
section
/-! DEFINITION. The exchanges (41_load_exchange.md R223-R226). -/

namespace Sys2Proof.Machine

/-- EX DE,HL (R223). -/
def execExDeHl (s : State) : Result := done 4 ((s.setDe s.hl).setHl s.de)

/-- EX AF,AF' (R224). -/
def execExAfAf (s : State) : Result :=
  done 4 ((s.withMain { s.main with a := s.shadow.a, f := s.shadow.f }).withShadow
    { s.shadow with a := s.main.a, f := s.main.f })

/-- EXX (R225: AF and AF' are not touched). -/
def execExx (s : State) : Result :=
  done 4 ((s.withMain { s.shadow with a := s.main.a, f := s.main.f }).withShadow
    { s.main with a := s.shadow.a, f := s.shadow.f })

/-- EX (SP),HL (R226: the read comes before the write). -/
def execExMSpHl (s : State) : Result := done 19 ((s.writeWord s.sp s.hl).setHl (s.readWord s.sp))

/-- EX (SP),X (R226: the read comes before the write). -/
def execExMSpX (x : Idx) (s : State) : Result := done 23 ((s.writeWord s.sp (s.idx x)).setIdx x (s.readWord s.sp))

end Sys2Proof.Machine
end

