-- ==== Sys2Proof/Machine/IncDec.lean ====
section
/-! DEFINITION. The 8-bit increments and decrements (42_arith_logic.md R258-R261). -/

namespace Sys2Proof.Machine

/-- INC r (R258). -/
def execIncR (r : Reg8) (s : State) : Result := done 4 (s.incOp (.reg r))

/-- INC XH (R258). -/
def execIncXH (x : Idx) (s : State) : Result := done 8 (s.incOp (.xh x))

/-- INC XL (R258). -/
def execIncXL (x : Idx) (s : State) : Result := done 8 (s.incOp (.xl x))

/-- INC (HL) (R259). -/
def execIncMHl (s : State) : Result := done 11 (s.incOp (.mem s.hl))

/-- INC (X+d) (R259). -/
def execIncXd (x : Idx) (d : Byte) (s : State) : Result := done 23 (s.incOp (.mem (s.ea x d)))

/-- DEC r (R260). -/
def execDecR (r : Reg8) (s : State) : Result := done 4 (s.decOp (.reg r))

/-- DEC XH (R260). -/
def execDecXH (x : Idx) (s : State) : Result := done 8 (s.decOp (.xh x))

/-- DEC XL (R260). -/
def execDecXL (x : Idx) (s : State) : Result := done 8 (s.decOp (.xl x))

/-- DEC (HL) (R261). -/
def execDecMHl (s : State) : Result := done 11 (s.decOp (.mem s.hl))

/-- DEC (X+d) (R261). -/
def execDecXd (x : Idx) (d : Byte) (s : State) : Result := done 23 (s.decOp (.mem (s.ea x d)))

end Sys2Proof.Machine
end

