-- ==== Sys2Proof/Machine/IndexedBits.lean ====
section
/-! DEFINITION. The indexed bit space DDCB/FDCB (43_bit_rotate.md R300-R312). -/

namespace Sys2Proof.Machine

/-- RLC (X+d) (R300). -/
def execRlcXd (x : Idx) (d : Byte) (s : State) : Result := done 23 (s.xcRot .rlc (s.ea x d) none)

/-- RLC (X+d),s (R312). -/
def execRlcXdR (x : Idx) (d : Byte) (q : Reg8) (s : State) : Result := done 23 (s.xcRot .rlc (s.ea x d) (some q))

/-- RRC (X+d) (R301). -/
def execRrcXd (x : Idx) (d : Byte) (s : State) : Result := done 23 (s.xcRot .rrc (s.ea x d) none)

/-- RRC (X+d),s (R312). -/
def execRrcXdR (x : Idx) (d : Byte) (q : Reg8) (s : State) : Result := done 23 (s.xcRot .rrc (s.ea x d) (some q))

/-- RL (X+d) (R302). -/
def execRlXd (x : Idx) (d : Byte) (s : State) : Result := done 23 (s.xcRot .rl (s.ea x d) none)

/-- RL (X+d),s (R312). -/
def execRlXdR (x : Idx) (d : Byte) (q : Reg8) (s : State) : Result := done 23 (s.xcRot .rl (s.ea x d) (some q))

/-- RR (X+d) (R303). -/
def execRrXd (x : Idx) (d : Byte) (s : State) : Result := done 23 (s.xcRot .rr (s.ea x d) none)

/-- RR (X+d),s (R312). -/
def execRrXdR (x : Idx) (d : Byte) (q : Reg8) (s : State) : Result := done 23 (s.xcRot .rr (s.ea x d) (some q))

/-- SLA (X+d) (R304). -/
def execSlaXd (x : Idx) (d : Byte) (s : State) : Result := done 23 (s.xcRot .sla (s.ea x d) none)

/-- SLA (X+d),s (R312). -/
def execSlaXdR (x : Idx) (d : Byte) (q : Reg8) (s : State) : Result := done 23 (s.xcRot .sla (s.ea x d) (some q))

/-- SRA (X+d) (R305). -/
def execSraXd (x : Idx) (d : Byte) (s : State) : Result := done 23 (s.xcRot .sra (s.ea x d) none)

/-- SRA (X+d),s (R312). -/
def execSraXdR (x : Idx) (d : Byte) (q : Reg8) (s : State) : Result := done 23 (s.xcRot .sra (s.ea x d) (some q))

/-- SLL (X+d) (R306). -/
def execSllXd (x : Idx) (d : Byte) (s : State) : Result := done 23 (s.xcRot .sll (s.ea x d) none)

/-- SLL (X+d),s (R312). -/
def execSllXdR (x : Idx) (d : Byte) (q : Reg8) (s : State) : Result := done 23 (s.xcRot .sll (s.ea x d) (some q))

/-- SRL (X+d) (R307). -/
def execSrlXd (x : Idx) (d : Byte) (s : State) : Result := done 23 (s.xcRot .srl (s.ea x d) none)

/-- SRL (X+d),s (R312). -/
def execSrlXdR (x : Idx) (d : Byte) (q : Reg8) (s : State) : Result := done 23 (s.xcRot .srl (s.ea x d) (some q))

/-- BIT b,(X+d) (R309). -/
def execBitXd (x : Idx) (d : Byte) (b : Index8) (s : State) : Result := done 20 (s.xcBit b (s.ea x d))

/-- BIT b,(X+d) (alias) (R309: nothing is written, not even register z). -/
def execBitXdAlias (x : Idx) (d : Byte) (b : Index8) (_z : Reg8) (s : State) : Result := done 20 (s.xcBit b (s.ea x d))

/-- RES b,(X+d) (R311). -/
def execResXd (x : Idx) (d : Byte) (b : Index8) (s : State) : Result := done 23 (s.xcRes b (s.ea x d) none)

/-- RES b,(X+d),s (R312). -/
def execResXdR (x : Idx) (d : Byte) (b : Index8) (q : Reg8) (s : State) : Result := done 23 (s.xcRes b (s.ea x d) (some q))

/-- SET b,(X+d) (R310). -/
def execSetXd (x : Idx) (d : Byte) (b : Index8) (s : State) : Result := done 23 (s.xcSet b (s.ea x d) none)

/-- SET b,(X+d),s (R312). -/
def execSetXdR (x : Idx) (d : Byte) (b : Index8) (q : Reg8) (s : State) : Result := done 23 (s.xcSet b (s.ea x d) (some q))

/-- (indexed bit space: DD|FD CB d op, see space DDCB/FDCB) (R312: the execution of the indexed bit space by the fields x, y, z of op; log entry 11). -/
def execIndexedBitSpace (x : Idx) (d : Byte) (op : Byte) (s : State) : Result :=
  let ea := s.ea x d
  let y := Index8.ofCode (fieldY op)
  let copy := Reg8.ofCode (fieldZ op)
  match (op.extractLsb' 6 2).toNat with
  | 1 => done 20 (s.xcBit y ea)
  | 0 => done 23 (s.xcRot (RotOp.ofCode (fieldY op)) ea copy)
  | 2 => done 23 (s.xcRes y ea copy)
  | _ => done 23 (s.xcSet y ea copy)

end Sys2Proof.Machine
end

