-- ==== Sys2Proof/Machine/InputOutput.lean ====
section
/-! DEFINITION. The single input and output instructions (45_block_io_system.md R378-R380, R385-R387). -/

namespace Sys2Proof.Machine

/-- IN A,(n) (R378). -/
def execInAN (n : Byte) (s : State) : Result := done 11 ((s.drawn).setA (s.portRead (s.portAn n)))

/-- IN r,(C) (R379). -/
def execInRC (r : Reg8) (s : State) : Result :=
  let v := s.portRead s.bc
  done 12 (((s.drawn).setReg r v).setF (sz53pKeepC v s.f))

/-- IN F,(C) (R380: no register takes the value). -/
def execInFC (s : State) : Result := done 12 ((s.drawn).setF (sz53pKeepC (s.portRead s.bc) s.f))

/-- OUT (n),A (R385). -/
def execOutNA (n : Byte) (s : State) : Result := done 11 (s.portWrite (s.portAn n) s.a)

/-- OUT (C),r (R386). -/
def execOutCR (r : Reg8) (s : State) : Result := done 12 (s.portWrite s.bc (s.reg r))

/-- OUT (C),0 (R387). -/
def execOutC0 (s : State) : Result := done 12 (s.portWrite s.bc 0x00)

end Sys2Proof.Machine
end

