-- ==== Sys2Proof/Machine/Loads.lean ====
section
/-! DEFINITION. The loads and the stack instructions (41_load_exchange.md R200-R222), but for the special-register loads. -/

namespace Sys2Proof.Machine

/-- LD r,s (R200). -/
def execLdRR (r : Reg8) (q : Reg8) (s : State) : Result := done 4 (s.setReg r (s.reg q))

/-- LD r,XH (R200: codes 4 and 5 of r mean XH and XL). -/
def execLdRXH (r : Reg8) (x : Idx) (s : State) : Result := done 8 (s.writeOp (.substituted x r) (s.xh x))

/-- LD r,XL (R200: codes 4 and 5 of r mean XH and XL). -/
def execLdRXL (r : Reg8) (x : Idx) (s : State) : Result := done 8 (s.writeOp (.substituted x r) (s.xl x))

/-- LD XH,s (R200). -/
def execLdXHR (x : Idx) (q : Reg8) (s : State) : Result := done 8 (s.setXh x (s.readOp (.substituted x q)))

/-- LD XL,s (R200). -/
def execLdXLR (x : Idx) (q : Reg8) (s : State) : Result := done 8 (s.setXl x (s.readOp (.substituted x q)))

/-- LD r,n (R201). -/
def execLdRN (r : Reg8) (n : Byte) (s : State) : Result := done 7 (s.setReg r n)

/-- LD XH,n (R201). -/
def execLdXHN (x : Idx) (n : Byte) (s : State) : Result := done 11 (s.setXh x n)

/-- LD XL,n (R201). -/
def execLdXLN (x : Idx) (n : Byte) (s : State) : Result := done 11 (s.setXl x n)

/-- LD r,(HL) (R202). -/
def execLdRMHl (r : Reg8) (s : State) : Result := done 7 (s.setReg r (s.readByte s.hl))

/-- LD r,(X+d) (R202: r is never substituted). -/
def execLdRXd (r : Reg8) (x : Idx) (d : Byte) (s : State) : Result := done 19 (s.setReg r (s.readByte (s.ea x d)))

/-- LD (HL),s (R203). -/
def execLdMHlR (q : Reg8) (s : State) : Result := done 7 (s.writeByte s.hl (s.reg q))

/-- LD (X+d),s (R203: the source is never substituted). -/
def execLdXdR (x : Idx) (q : Reg8) (d : Byte) (s : State) : Result := done 19 (s.writeByte (s.ea x d) (s.reg q))

/-- LD (HL),n (R204). -/
def execLdMHlN (n : Byte) (s : State) : Result := done 10 (s.writeByte s.hl n)

/-- LD (X+d),n (R204). -/
def execLdXdN (x : Idx) (d : Byte) (n : Byte) (s : State) : Result := done 19 (s.writeByte (s.ea x d) n)

/-- LD A,(BC) (R205). -/
def execLdAMBc (s : State) : Result := done 7 (s.setA (s.readByte s.bc))

/-- LD A,(DE) (R206). -/
def execLdAMDe (s : State) : Result := done 7 (s.setA (s.readByte s.de))

/-- LD A,(nn) (R207). -/
def execLdAMNn (nn : Word) (s : State) : Result := done 13 (s.setA (s.readByte nn))

/-- LD (BC),A (R208). -/
def execLdMBcA (s : State) : Result := done 7 (s.writeByte s.bc s.a)

/-- LD (DE),A (R209). -/
def execLdMDeA (s : State) : Result := done 7 (s.writeByte s.de s.a)

/-- LD (nn),A (R210). -/
def execLdMNnA (nn : Word) (s : State) : Result := done 13 (s.writeByte nn s.a)

/-- LD rp,nn (R215). -/
def execLdRpNn (rp : RegPair) (nn : Word) (s : State) : Result := done 10 (s.setPair rp nn)

/-- LD X,nn (R215). -/
def execLdXNn (x : Idx) (nn : Word) (s : State) : Result := done 14 (s.setIdx x nn)

/-- LD HL,(nn) (R216). -/
def execLdHlMNn (nn : Word) (s : State) : Result := done 16 (s.setHl (s.readWord nn))

/-- LD X,(nn) (R216). -/
def execLdXMNn (x : Idx) (nn : Word) (s : State) : Result := done 20 (s.setIdx x (s.readWord nn))

/-- LD rp,(nn) (R217). -/
def execLdRpMNn (rp : RegPair) (nn : Word) (s : State) : Result := done 20 (s.setPair rp (s.readWord nn))

/-- LD (nn),HL (R218). -/
def execLdMNnHl (nn : Word) (s : State) : Result := done 16 (s.writeWord nn s.hl)

/-- LD (nn),X (R218). -/
def execLdMNnX (x : Idx) (nn : Word) (s : State) : Result := done 20 (s.writeWord nn (s.idx x))

/-- LD (nn),rp (R219). -/
def execLdMNnRp (rp : RegPair) (nn : Word) (s : State) : Result := done 20 (s.writeWord nn (s.pair rp))

/-- LD SP,HL (R220). -/
def execLdSpHl (s : State) : Result := done 6 (s.withSp s.hl)

/-- LD SP,X (R220). -/
def execLdSpX (x : Idx) (s : State) : Result := done 10 (s.withSp (s.idx x))

/-- PUSH qq (R221). -/
def execPushQq (qq : StackPair) (s : State) : Result := done 11 (s.push (s.stackPair qq))

/-- PUSH X (R221). -/
def execPushX (x : Idx) (s : State) : Result := done 15 (s.push (s.idx x))

/-- POP qq (R222: POP AF writes all 8 bits of F). -/
def execPopQq (qq : StackPair) (s : State) : Result := done 10 ((s.dropTop).setStackPair qq s.top)

/-- POP X (R222). -/
def execPopX (x : Idx) (s : State) : Result := done 14 ((s.dropTop).setIdx x s.top)

end Sys2Proof.Machine
end

