-- ==== Sys2Proof/Machine/Rotates.lean ====
section
/-! DEFINITION. The rotates and shifts of the CB space and the nibble rotates (43_bit_rotate.md R300-R307, R316, R317). -/

namespace Sys2Proof.Machine

/-- RLC s (R300). -/
def execRlcR (q : Reg8) (s : State) : Result := done 8 (s.rotOp .rlc (.reg q))

/-- RLC (HL) (R300). -/
def execRlcMHl (s : State) : Result := done 15 (s.rotOp .rlc (.mem s.hl))

/-- RRC s (R301). -/
def execRrcR (q : Reg8) (s : State) : Result := done 8 (s.rotOp .rrc (.reg q))

/-- RRC (HL) (R301). -/
def execRrcMHl (s : State) : Result := done 15 (s.rotOp .rrc (.mem s.hl))

/-- RL s (R302). -/
def execRlR (q : Reg8) (s : State) : Result := done 8 (s.rotOp .rl (.reg q))

/-- RL (HL) (R302). -/
def execRlMHl (s : State) : Result := done 15 (s.rotOp .rl (.mem s.hl))

/-- RR s (R303). -/
def execRrR (q : Reg8) (s : State) : Result := done 8 (s.rotOp .rr (.reg q))

/-- RR (HL) (R303). -/
def execRrMHl (s : State) : Result := done 15 (s.rotOp .rr (.mem s.hl))

/-- SLA s (R304). -/
def execSlaR (q : Reg8) (s : State) : Result := done 8 (s.rotOp .sla (.reg q))

/-- SLA (HL) (R304). -/
def execSlaMHl (s : State) : Result := done 15 (s.rotOp .sla (.mem s.hl))

/-- SRA s (R305). -/
def execSraR (q : Reg8) (s : State) : Result := done 8 (s.rotOp .sra (.reg q))

/-- SRA (HL) (R305). -/
def execSraMHl (s : State) : Result := done 15 (s.rotOp .sra (.mem s.hl))

/-- SLL s (R306). -/
def execSllR (q : Reg8) (s : State) : Result := done 8 (s.rotOp .sll (.reg q))

/-- SLL (HL) (R306). -/
def execSllMHl (s : State) : Result := done 15 (s.rotOp .sll (.mem s.hl))

/-- SRL s (R307). -/
def execSrlR (q : Reg8) (s : State) : Result := done 8 (s.rotOp .srl (.reg q))

/-- SRL (HL) (R307). -/
def execSrlMHl (s : State) : Result := done 15 (s.rotOp .srl (.mem s.hl))

/-- RLD (R316). -/
def execRld (s : State) : Result :=
  let t := s.readByte s.hl
  let a := (s.a &&& 0xF0) ||| (t >>> 4)
  done 18 ((s.writeByte s.hl ((t <<< 4) ||| (s.a &&& 0x0F))).setAF (a, sz53pKeepC a s.f))

/-- RRD (R317). -/
def execRrd (s : State) : Result :=
  let t := s.readByte s.hl
  let a := (s.a &&& 0xF0) ||| (t &&& 0x0F)
  done 18 ((s.writeByte s.hl ((s.a <<< 4) ||| (t >>> 4))).setAF (a, sz53pKeepC a s.f))

end Sys2Proof.Machine
end

