-- ==== Sys2Proof/Machine/System.lean ====
section
/-! DEFINITION. The special-register loads, CPU control and the no-ops (41_load_exchange.md R211-R214, 45_block_io_system.md R392-R401, 30_encoding.md R113). -/

namespace Sys2Proof.Machine

/-- The flags of LD A,I and LD A,R: PV is IFF2, C is kept (R211, R212). -/
def State.ldAFlags (s : State) (v : Byte) : Byte := (s.f &&& fC) ||| sz53 v ||| flagIf s.iff2 fPV

/-- LD A,I (R211). -/
def execLdAI (s : State) : Result := done 9 (s.setAF (s.i, s.ldAFlags s.i))

/-- LD A,R (R212: R after this instruction's own two fetches). -/
def execLdAR (s : State) : Result := done 9 (s.setAF (s.refresh, s.ldAFlags s.refresh))

/-- LD I,A (R213). -/
def execLdIA (s : State) : Result := done 9 (s.withI s.a)

/-- LD R,A (R214). -/
def execLdRA (s : State) : Result := done 9 (s.setRefresh s.a)

/-- NOP (R392). -/
def execNop (s : State) : Result := done 4 s

/-- HALT (R393). -/
def execHalt (s : State) : Result := done 4 (s.withHalted true)

/-- DI (R394). -/
def execDi (s : State) : Result := done 4 ((s.withIff1 false).withIff2 false)

/-- EI (R395). -/
def execEi (s : State) : Result := done 4 ((s.withIff1 true).withIff2 true)

/-- IM 0 (R396). -/
def execIm0 (s : State) : Result := done 8 (s.withIm 0)

/-- IM 1 (R397). -/
def execIm1 (s : State) : Result := done 8 (s.withIm 1)

/-- IM 2 (R398). -/
def execIm2 (s : State) : Result := done 8 (s.withIm 2)

/-- RETN (R399). -/
def execRetn (s : State) : Result := done 14 s.returnFromInterrupt

/-- RETI (R400: it copies IFF2 as RETN does, C3). -/
def execReti (s : State) : Result := done 14 s.returnFromInterrupt

/-- (ED no-op) (R401). -/
def execEdNop (_op : Byte) (s : State) : Result := done 8 s

/-- (prefix fallback) (R113: the prefix is consumed, the byte after it was only peeked). -/
def execPrefixFallback (_x : Idx) (_nxt : Byte) (s : State) : Result := done Config.prefixFallbackCycles s

/-- (fallback before HALT) (R113: the prefix is consumed, HALT runs in the next step). -/
def execFallbackBeforeHalt (_x : Idx) (s : State) : Result := done Config.prefixFallbackCycles s

end Sys2Proof.Machine
end

