-- ==== Sys2Proof/Machine/Dispatch.lean ====
section
/-! DEFINITION. The dispatcher: one arm per instruction, one direct call of its meaning. -/

namespace Sys2Proof.Machine

/-- What an instruction does once all its bytes are fetched (R21, R100). -/
def exec (i : Instr) (s : State) : Host.Outcome State Fault Refusal :=
  match i with
  | .nop => Sys2Proof.Machine.execNop s
  | .ldRpNn rp nn => Sys2Proof.Machine.execLdRpNn rp nn s
  | .ldMBcA => Sys2Proof.Machine.execLdMBcA s
  | .ldMDeA => Sys2Proof.Machine.execLdMDeA s
  | .ldMNnHl nn => Sys2Proof.Machine.execLdMNnHl nn s
  | .ldMNnA nn => Sys2Proof.Machine.execLdMNnA nn s
  | .incRp rp => Sys2Proof.Machine.execIncRp rp s
  | .incMHl => Sys2Proof.Machine.execIncMHl s
  | .decMHl => Sys2Proof.Machine.execDecMHl s
  | .ldMHlN n => Sys2Proof.Machine.execLdMHlN n s
  | .incR r => Sys2Proof.Machine.execIncR r s
  | .decR r => Sys2Proof.Machine.execDecR r s
  | .ldRN r n => Sys2Proof.Machine.execLdRN r n s
  | .rlca => Sys2Proof.Machine.execRlca s
  | .rrca => Sys2Proof.Machine.execRrca s
  | .rla => Sys2Proof.Machine.execRla s
  | .rra => Sys2Proof.Machine.execRra s
  | .daa => Sys2Proof.Machine.execDaa s
  | .cpl => Sys2Proof.Machine.execCpl s
  | .scf => Sys2Proof.Machine.execScf s
  | .ccf => Sys2Proof.Machine.execCcf s
  | .exAfAf => Sys2Proof.Machine.execExAfAf s
  | .addHlRp rp => Sys2Proof.Machine.execAddHlRp rp s
  | .ldAMBc => Sys2Proof.Machine.execLdAMBc s
  | .ldAMDe => Sys2Proof.Machine.execLdAMDe s
  | .ldHlMNn nn => Sys2Proof.Machine.execLdHlMNn nn s
  | .ldAMNn nn => Sys2Proof.Machine.execLdAMNn nn s
  | .decRp rp => Sys2Proof.Machine.execDecRp rp s
  | .djnz e => Sys2Proof.Machine.execDjnz e s
  | .jr e => Sys2Proof.Machine.execJr e s
  | .jrCc cc e => Sys2Proof.Machine.execJrCc cc e s
  | .halt => Sys2Proof.Machine.execHalt s
  | .ldMHlR q => Sys2Proof.Machine.execLdMHlR q s
  | .ldRMHl r => Sys2Proof.Machine.execLdRMHl r s
  | .ldRR r q => Sys2Proof.Machine.execLdRR r q s
  | .addAMHl => Sys2Proof.Machine.execAddAMHl s
  | .addAR q => Sys2Proof.Machine.execAddAR q s
  | .addAN n => Sys2Proof.Machine.execAddAN n s
  | .adcAMHl => Sys2Proof.Machine.execAdcAMHl s
  | .adcAR q => Sys2Proof.Machine.execAdcAR q s
  | .adcAN n => Sys2Proof.Machine.execAdcAN n s
  | .subMHl => Sys2Proof.Machine.execSubMHl s
  | .subR q => Sys2Proof.Machine.execSubR q s
  | .subN n => Sys2Proof.Machine.execSubN n s
  | .sbcAMHl => Sys2Proof.Machine.execSbcAMHl s
  | .sbcAR q => Sys2Proof.Machine.execSbcAR q s
  | .sbcAN n => Sys2Proof.Machine.execSbcAN n s
  | .andMHl => Sys2Proof.Machine.execAndMHl s
  | .andR q => Sys2Proof.Machine.execAndR q s
  | .andN n => Sys2Proof.Machine.execAndN n s
  | .xorMHl => Sys2Proof.Machine.execXorMHl s
  | .xorR q => Sys2Proof.Machine.execXorR q s
  | .xorN n => Sys2Proof.Machine.execXorN n s
  | .orMHl => Sys2Proof.Machine.execOrMHl s
  | .orR q => Sys2Proof.Machine.execOrR q s
  | .orN n => Sys2Proof.Machine.execOrN n s
  | .cpMHl => Sys2Proof.Machine.execCpMHl s
  | .cpR q => Sys2Proof.Machine.execCpR q s
  | .cpN n => Sys2Proof.Machine.execCpN n s
  | .retCc cc => Sys2Proof.Machine.execRetCc cc s
  | .popQq qq => Sys2Proof.Machine.execPopQq qq s
  | .jpCcNn cc nn => Sys2Proof.Machine.execJpCcNn cc nn s
  | .jpNn nn => Sys2Proof.Machine.execJpNn nn s
  | .callCcNn cc nn => Sys2Proof.Machine.execCallCcNn cc nn s
  | .pushQq qq => Sys2Proof.Machine.execPushQq qq s
  | .rst y => Sys2Proof.Machine.execRst y s
  | .ret => Sys2Proof.Machine.execRet s
  | .callNn nn => Sys2Proof.Machine.execCallNn nn s
  | .outNA n => Sys2Proof.Machine.execOutNA n s
  | .exx => Sys2Proof.Machine.execExx s
  | .inAN n => Sys2Proof.Machine.execInAN n s
  | .exMSpHl => Sys2Proof.Machine.execExMSpHl s
  | .jpHl => Sys2Proof.Machine.execJpHl s
  | .exDeHl => Sys2Proof.Machine.execExDeHl s
  | .di => Sys2Proof.Machine.execDi s
  | .ldSpHl => Sys2Proof.Machine.execLdSpHl s
  | .ei => Sys2Proof.Machine.execEi s
  | .rlcMHl => Sys2Proof.Machine.execRlcMHl s
  | .rlcR q => Sys2Proof.Machine.execRlcR q s
  | .rrcMHl => Sys2Proof.Machine.execRrcMHl s
  | .rrcR q => Sys2Proof.Machine.execRrcR q s
  | .rlMHl => Sys2Proof.Machine.execRlMHl s
  | .rlR q => Sys2Proof.Machine.execRlR q s
  | .rrMHl => Sys2Proof.Machine.execRrMHl s
  | .rrR q => Sys2Proof.Machine.execRrR q s
  | .slaMHl => Sys2Proof.Machine.execSlaMHl s
  | .slaR q => Sys2Proof.Machine.execSlaR q s
  | .sraMHl => Sys2Proof.Machine.execSraMHl s
  | .sraR q => Sys2Proof.Machine.execSraR q s
  | .sllMHl => Sys2Proof.Machine.execSllMHl s
  | .sllR q => Sys2Proof.Machine.execSllR q s
  | .srlMHl => Sys2Proof.Machine.execSrlMHl s
  | .srlR q => Sys2Proof.Machine.execSrlR q s
  | .bitMHl b => Sys2Proof.Machine.execBitMHl b s
  | .bitR b q => Sys2Proof.Machine.execBitR b q s
  | .resMHl b => Sys2Proof.Machine.execResMHl b s
  | .resR b q => Sys2Proof.Machine.execResR b q s
  | .setMHl b => Sys2Proof.Machine.execSetMHl b s
  | .setR b q => Sys2Proof.Machine.execSetR b q s
  | .inFC => Sys2Proof.Machine.execInFC s
  | .inRC r => Sys2Proof.Machine.execInRC r s
  | .outC0 => Sys2Proof.Machine.execOutC0 s
  | .outCR r => Sys2Proof.Machine.execOutCR r s
  | .sbcHlRp rp => Sys2Proof.Machine.execSbcHlRp rp s
  | .adcHlRp rp => Sys2Proof.Machine.execAdcHlRp rp s
  | .ldMNnRp rp nn => Sys2Proof.Machine.execLdMNnRp rp nn s
  | .ldRpMNn rp nn => Sys2Proof.Machine.execLdRpMNn rp nn s
  | .neg => Sys2Proof.Machine.execNeg s
  | .reti => Sys2Proof.Machine.execReti s
  | .retn => Sys2Proof.Machine.execRetn s
  | .im0 => Sys2Proof.Machine.execIm0 s
  | .im1 => Sys2Proof.Machine.execIm1 s
  | .im2 => Sys2Proof.Machine.execIm2 s
  | .ldIA => Sys2Proof.Machine.execLdIA s
  | .ldRA => Sys2Proof.Machine.execLdRA s
  | .ldAI => Sys2Proof.Machine.execLdAI s
  | .ldAR => Sys2Proof.Machine.execLdAR s
  | .rrd => Sys2Proof.Machine.execRrd s
  | .rld => Sys2Proof.Machine.execRld s
  | .ldi => Sys2Proof.Machine.execLdi s
  | .ldir => Sys2Proof.Machine.execLdir s
  | .ldd => Sys2Proof.Machine.execLdd s
  | .lddr => Sys2Proof.Machine.execLddr s
  | .cpi => Sys2Proof.Machine.execCpi s
  | .cpir => Sys2Proof.Machine.execCpir s
  | .cpd => Sys2Proof.Machine.execCpd s
  | .cpdr => Sys2Proof.Machine.execCpdr s
  | .ini => Sys2Proof.Machine.execIni s
  | .inir => Sys2Proof.Machine.execInir s
  | .ind => Sys2Proof.Machine.execInd s
  | .indr => Sys2Proof.Machine.execIndr s
  | .outi => Sys2Proof.Machine.execOuti s
  | .otir => Sys2Proof.Machine.execOtir s
  | .outd => Sys2Proof.Machine.execOutd s
  | .otdr => Sys2Proof.Machine.execOtdr s
  | .edNop op => Sys2Proof.Machine.execEdNop op s
  | .addXRp x rp => Sys2Proof.Machine.execAddXRp x rp s
  | .ldXNn x nn => Sys2Proof.Machine.execLdXNn x nn s
  | .ldMNnX x nn => Sys2Proof.Machine.execLdMNnX x nn s
  | .incX x => Sys2Proof.Machine.execIncX x s
  | .incXH x => Sys2Proof.Machine.execIncXH x s
  | .decXH x => Sys2Proof.Machine.execDecXH x s
  | .ldXHN x n => Sys2Proof.Machine.execLdXHN x n s
  | .ldXMNn x nn => Sys2Proof.Machine.execLdXMNn x nn s
  | .decX x => Sys2Proof.Machine.execDecX x s
  | .incXL x => Sys2Proof.Machine.execIncXL x s
  | .decXL x => Sys2Proof.Machine.execDecXL x s
  | .ldXLN x n => Sys2Proof.Machine.execLdXLN x n s
  | .incXd x d => Sys2Proof.Machine.execIncXd x d s
  | .decXd x d => Sys2Proof.Machine.execDecXd x d s
  | .ldXdN x d n => Sys2Proof.Machine.execLdXdN x d n s
  | .fallbackBeforeHalt x => Sys2Proof.Machine.execFallbackBeforeHalt x s
  | .ldXdR x q d => Sys2Proof.Machine.execLdXdR x q d s
  | .ldRXd r x d => Sys2Proof.Machine.execLdRXd r x d s
  | .ldRXH r x => Sys2Proof.Machine.execLdRXH r x s
  | .ldRXL r x => Sys2Proof.Machine.execLdRXL r x s
  | .ldXHR x q => Sys2Proof.Machine.execLdXHR x q s
  | .ldXLR x q => Sys2Proof.Machine.execLdXLR x q s
  | .addAXd x d => Sys2Proof.Machine.execAddAXd x d s
  | .addAXH x => Sys2Proof.Machine.execAddAXH x s
  | .addAXL x => Sys2Proof.Machine.execAddAXL x s
  | .adcAXd x d => Sys2Proof.Machine.execAdcAXd x d s
  | .adcAXH x => Sys2Proof.Machine.execAdcAXH x s
  | .adcAXL x => Sys2Proof.Machine.execAdcAXL x s
  | .subXd x d => Sys2Proof.Machine.execSubXd x d s
  | .subXH x => Sys2Proof.Machine.execSubXH x s
  | .subXL x => Sys2Proof.Machine.execSubXL x s
  | .sbcAXd x d => Sys2Proof.Machine.execSbcAXd x d s
  | .sbcAXH x => Sys2Proof.Machine.execSbcAXH x s
  | .sbcAXL x => Sys2Proof.Machine.execSbcAXL x s
  | .andXd x d => Sys2Proof.Machine.execAndXd x d s
  | .andXH x => Sys2Proof.Machine.execAndXH x s
  | .andXL x => Sys2Proof.Machine.execAndXL x s
  | .xorXd x d => Sys2Proof.Machine.execXorXd x d s
  | .xorXH x => Sys2Proof.Machine.execXorXH x s
  | .xorXL x => Sys2Proof.Machine.execXorXL x s
  | .orXd x d => Sys2Proof.Machine.execOrXd x d s
  | .orXH x => Sys2Proof.Machine.execOrXH x s
  | .orXL x => Sys2Proof.Machine.execOrXL x s
  | .cpXd x d => Sys2Proof.Machine.execCpXd x d s
  | .cpXH x => Sys2Proof.Machine.execCpXH x s
  | .cpXL x => Sys2Proof.Machine.execCpXL x s
  | .indexedBitSpace x d op => Sys2Proof.Machine.execIndexedBitSpace x d op s
  | .popX x => Sys2Proof.Machine.execPopX x s
  | .exMSpX x => Sys2Proof.Machine.execExMSpX x s
  | .pushX x => Sys2Proof.Machine.execPushX x s
  | .jpX x => Sys2Proof.Machine.execJpX x s
  | .ldSpX x => Sys2Proof.Machine.execLdSpX x s
  | .prefixFallback x nxt => Sys2Proof.Machine.execPrefixFallback x nxt s
  | .rlcXd x d => Sys2Proof.Machine.execRlcXd x d s
  | .rlcXdR x d q => Sys2Proof.Machine.execRlcXdR x d q s
  | .rrcXd x d => Sys2Proof.Machine.execRrcXd x d s
  | .rrcXdR x d q => Sys2Proof.Machine.execRrcXdR x d q s
  | .rlXd x d => Sys2Proof.Machine.execRlXd x d s
  | .rlXdR x d q => Sys2Proof.Machine.execRlXdR x d q s
  | .rrXd x d => Sys2Proof.Machine.execRrXd x d s
  | .rrXdR x d q => Sys2Proof.Machine.execRrXdR x d q s
  | .slaXd x d => Sys2Proof.Machine.execSlaXd x d s
  | .slaXdR x d q => Sys2Proof.Machine.execSlaXdR x d q s
  | .sraXd x d => Sys2Proof.Machine.execSraXd x d s
  | .sraXdR x d q => Sys2Proof.Machine.execSraXdR x d q s
  | .sllXd x d => Sys2Proof.Machine.execSllXd x d s
  | .sllXdR x d q => Sys2Proof.Machine.execSllXdR x d q s
  | .srlXd x d => Sys2Proof.Machine.execSrlXd x d s
  | .srlXdR x d q => Sys2Proof.Machine.execSrlXdR x d q s
  | .bitXd x d b => Sys2Proof.Machine.execBitXd x d b s
  | .bitXdAlias x d b z => Sys2Proof.Machine.execBitXdAlias x d b z s
  | .resXd x d b => Sys2Proof.Machine.execResXd x d b s
  | .resXdR x d b q => Sys2Proof.Machine.execResXdR x d b q s
  | .setXd x d b => Sys2Proof.Machine.execSetXd x d b s
  | .setXdR x d b q => Sys2Proof.Machine.execSetXdR x d b q s

end Sys2Proof.Machine
end

