-- ==== Sys2Proof/Machine/Fetch.lean ====
section
/-! DEFINITION. The part of a step that comes before the instruction's own operation (30_encoding.md R100, R103, R113): the
throttle, the halted NOP, the fetch and the decoding. -/

namespace Sys2Proof.Machine

/-- The bytes from PC on, as many as the longest instruction has (R102), the address wrapping (R37). Every fetch is a fresh
read of memory (R86); all of them come before the instruction's effects (R81), so the step may read them at once
(DEDUCED, log entry 8). -/
def State.window (s : State) : List Byte :=
  [s.readByte s.pc, s.readByte (s.pc + 1), s.readByte (s.pc + 2), s.readByte (s.pc + 3)]

/-- `if throttle > 0: throttle <- throttle - 1` (R44, R100). -/
def State.useThrottle (s : State) : State := if 0 < s.throttle then s.withThrottle (s.throttle - 1) else s

/-- The addresses of `n` bytes from `a` on: those the fetch hook is called with (R455). -/
def hookCalls (a : Word) : Nat → List Word
  | 0 => []
  | n + 1 => a :: hookCalls (a + 1) n

/-- What the fetches of an instruction of `size` bytes do, `opcodeFetches` of them made with `FetchOpcode()`: the hook is
called, Rlo is incremented for each of these, and PC moves past the bytes (R18, R38, R103, R455). -/
def State.fetched (s : State) (size opcodeFetches : Nat) : State :=
  ((s.withHooks (s.hooks ++ hookCalls s.pc opcodeFetches)).countRefresh opcodeFetches).withPc (s.pc + BitVec.ofNat 16 size)

/-- What a step comes to before the instruction's operation. -/
inductive Begun
  /-- The step is over: it was throttled, or the core is halted. -/
  | over (s : State)
  /-- The instruction is fetched and decoded. -/
  | running (i : Instr) (s : State)
  /-- The dispatcher's last arm (R431). -/
  | stopped (reason : Fault)
  deriving DecidableEq, Repr

/-- Fetches and decodes the instruction at PC. -/
def State.fetch (s : State) : Begun :=
  match decode s.window with
  | .ok d => .running d.instr (s.fetched d.size d.opcodeFetches)
  | .error _ => .stopped .undecoded

/-- The first lines of `Step()` (R100): a throttle of 0 makes the step a no-op, a halted step only advances the cycles. -/
def State.begin (s : State) : Begun :=
  if s.throttle = 0 then .over s
  else if s.halted then .over (s.useThrottle.tick Config.haltedCycles)
  else s.useThrottle.fetch

/-- Writes bytes at consecutive addresses, in increasing order, the address wrapping. -/
def State.writeBytes (s : State) (a : Word) : List Byte → State
  | [] => s
  | v :: vs => (s.writeByte a v).writeBytes (a + 1) vs

/-- Makes the next step fetch: not halted, and not throttled. -/
def State.readyToFetch (s : State) : State :=
  (s.withHalted false).withThrottle (if s.throttle = 0 then -1 else s.throttle)

end Sys2Proof.Machine
end

