-- ==== Sys2Proof/Machine/Step.lean ====
section
/-! DEFINITION. One step of the engine (30_encoding.md R100, R101). -/

namespace Sys2Proof.Machine

/-- One call of `step()` (R100): one instruction, one block iteration, one halted NOP, one fallen-back prefix, or nothing
when throttled (R101). A fault has no next state (R430; log entry 9). -/
def step (s : State) : Host.Outcome State Fault Refusal :=
  match s.begin with
  | .over t => .next t
  | .running i t => exec i t
  | .stopped r => .fault r

/-- `s` with the instruction given as one number stored at PC, the first byte least significant, zeros above its bits; the
halt flag and a throttle of 0, which would keep the next step from fetching, are lifted (log entry 12). -/
def State.withFetchWord (s : State) (nbits w : Nat) : State :=
  (s.writeBytes s.pc (bytesOf (w % 2 ^ nbits) maxLength)).readyToFetch

end Sys2Proof.Machine
end

