-- ==== Sys2Proof/Machine/HostOps.lean ====
section
/-! DEFINITION. The host's moves at a boundary between two steps (00_scope.md R26): reset, interrupt delivery, snapshot
restore, the setters and the reads. -/

namespace Sys2Proof.Machine

/-- `reset()` (70_reset_and_hazards.md R470): the core's fields get their power-on values (R51); throttle, horizon, memory and
the port device are left alone, and so are the model's own records. -/
def State.hostReset (s : State) : State where
  main := State.reset.main
  shadow := State.reset.shadow
  ix := State.reset.ix
  iy := State.reset.iy
  sp := State.reset.sp
  pc := State.reset.pc
  i := State.reset.i
  r7 := State.reset.r7
  rlo := State.reset.rlo
  iff1 := State.reset.iff1
  iff2 := State.reset.iff2
  im := State.reset.im
  halted := State.reset.halted
  cycles := State.reset.cycles
  throttle := s.throttle
  horizon := s.horizon
  mem := s.mem
  ports := s.ports
  hooks := s.hooks
  draws := s.draws

/-- The size of a snapshot's RAM image (20_memory.md R89, R92). -/
def snapshotSize : Nat := 49152

/-- The structure a snapshot restore takes (R92). -/
structure Snapshot where
  /-- AF, BC, DE, HL. -/
  main : Bank
  /-- AF', BC', DE', HL'. -/
  shadow : Bank
  ix : Word
  iy : Word
  sp : Word
  pc : Word
  i : Byte
  /-- All 8 bits of R. -/
  r : Byte
  im : BitVec 2
  iff1 : Bool
  image : Vector Byte snapshotSize
  deriving DecidableEq, Repr

/-- The registers of a snapshot restore (R92): `IFF2 <- IFF1` and `halted <- 0`, as the structure has neither. -/
def State.restoreRegisters (s : State) (p : Snapshot) : State :=
  State.setRefresh { s with
    main := p.main, shadow := p.shadow, ix := p.ix, iy := p.iy, sp := p.sp, pc := p.pc, i := p.i, im := p.im,
    iff1 := p.iff1, iff2 := p.iff1, halted := false } p.r

/-- Snapshot restore (R92), the image after the registers, in increasing address order (R93). -/
def State.restore (s : State) (p : Snapshot) : State :=
  (s.restoreRegisters p).writeBytes Config.snapshotBase p.image.toList

/-- A new engine whose bus holds the given bytes from address 0 on: the initial contents are a launch parameter (R91, R473). -/
def State.launch (image : List Byte) : State := State.reset.writeBytes 0 image

/-- Sets the debug throttle (R44, R451). -/
def State.setThrottle (s : State) (n : Int) : State := s.withThrottle n

/-- Sets the event horizon (R44, R449). -/
def State.setHorizon (s : State) (n : Nat) : State := s.withHorizon n

/-- Sets the cycle counter, as the host does by its frame convention (R43, R485). -/
def State.setCycles (s : State) (n : Nat) : State := s.withCycles n

/-- The port device raises or drops its pending flags (R73). -/
def State.setPending (s : State) (nmi irq : Bool) : State :=
  s.withPorts { s.ports with nmiPending := nmi, irqPending := irq }

/-- The port device presents another data byte, or none (R73). -/
def State.setAckByte (s : State) (b : Option Byte) : State := s.withPorts { s.ports with ackByte := b }

/-- The data byte the host passes: the device's, or 0xFF when it has none (R433, R442). -/
def State.ackData (s : State) : Byte := s.ports.ackByte.getD Config.openBus

/-- `requestInterrupt()` (R442): `Accept(nmi = 0, irq = 1, data)`. -/
def requestInterrupt (s : State) : Result := accept false true s.ackData s

/-- The host samples the acknowledge interface and passes it in (R433); it keeps the flags as they are. -/
def pollInterrupts (s : State) : Result := accept s.ports.nmiPending s.ports.irqPending s.ackData s

/-- `cyclesElapsed()` (R43). -/
def State.cyclesElapsed (s : State) : Nat := s.cycles

/-- `isHalted()` (R42). -/
def State.isHalted (s : State) : Bool := s.halted

/-- What the host, or the port device it owns, does at a boundary (R26). -/
inductive HostAction
  | step
  | reset
  | accept (nmi irq : Bool) (data : Byte)
  | requestInterrupt
  | pollInterrupts
  | restore (p : Snapshot)
  | setThrottle (n : Int)
  | setHorizon (n : Nat)
  | setCycles (n : Nat)
  | setPending (nmi irq : Bool)
  | setAckByte (b : Option Byte)
  deriving DecidableEq, Repr

/-- Performs one move of the host. -/
def perform (s : State) : HostAction → Result
  | .step => Machine.step s
  | .reset => .next s.hostReset
  | .accept nmi irq data => Machine.accept nmi irq data s
  | .requestInterrupt => Machine.requestInterrupt s
  | .pollInterrupts => Machine.pollInterrupts s
  | .restore p => .next (s.restore p)
  | .setThrottle n => .next (s.setThrottle n)
  | .setHorizon n => .next (s.setHorizon n)
  | .setCycles n => .next (s.setCycles n)
  | .setPending nmi irq => .next (s.setPending nmi irq)
  | .setAckByte b => .next (s.setAckByte b)

/-- Performs the host's moves one after another; after a fault none is defined (R430). -/
def performAll (s : State) : List HostAction → Result
  | [] => .next s
  | m :: ms =>
    match perform s m with
    | .next t => performAll t ms
    | .fault r => .fault r
    | .refused r => .refused r

end Sys2Proof.Machine
end

