-- ==== Sys2Proof/WellFormed.lean ====
section
/-! DEFINITION. When an instruction is one the decoder can give (30_encoding.md). The syntax already rules out a
register code 6, a bit number above 7 and a byte above 255; what is left is checked here. -/

namespace Sys2Proof

/-- JR has only the conditions NZ, Z, NC and C (R108, R343). -/
def Cond.okForJr : Cond → Bool
  | .nz | .z | .nc | .c => true
  | .po | .pe | .p | .m => false

/-- `LD XH,s` and `LD XL,s` with s = H or L are the rows `LD r,XH` and `LD r,XL`, which match first (R116, R129). -/
def Reg8.isHOrL : Reg8 → Bool
  | .h | .l => true
  | .b | .c | .d | .e | .a => false

/-- The instructions the decoder gives. The row of DD/FD CB only points to the DDCB/FDCB rows, one of which decodes every
final opcode (R120), so no bytes decode to it (log entry 11). -/
def Instr.wellFormed : Instr → Bool
  | .jrCc cc _ => cc.okForJr
  | .edNop op => isEdHole op
  | .ldXHR _ q => !q.isHOrL
  | .ldXLR _ q => !q.isHOrL
  | .prefixFallback _ nxt => !usesHL nxt && nxt != 0x76
  | .indexedBitSpace _ _ _ => false
  | _ => true

end Sys2Proof
end

