-- ==== Sys2Proof/Safety.lean ====
section
/-! DEFINITION. The terms the statements use: what a good state is, what an instruction may change, and the spec's own closed
forms, written apart from the model's tables. -/

namespace Sys2Proof.Machine

/-! ## Good states -/

/-- The invariant of the machine: memory keeps its canonical form (log entry 1), the interrupt mode is legal (10_state.md R41),
and IFF1 is set only where IFF2 is (60_exceptions.md R436: "Outside an NMI handler IFF2 = IFF1 always"). -/
structure State.Inv (s : State) : Prop where
  memory : s.mem.wf = true
  mode : s.im ≠ 3
  flipFlops : s.iff1 = true → s.iff2 = true

/-! ## Frames -/

/-- A piece of state other than memory and the cycle counter. -/
inductive Part
  | reg (r : Reg8) | f | shadow | idx (x : Idx) | sp | pc | i | r7 | rlo | iff1 | iff2 | im | halted | throttle | horizon
  | ports | hooks | draws
  deriving DecidableEq, Repr

/-- `t` has the same value there as `s`. -/
def Part.same (s t : State) : Part → Prop
  | .reg r => t.reg r = s.reg r
  | .f => t.f = s.f
  | .shadow => t.shadow = s.shadow
  | .idx x => t.idx x = s.idx x
  | .sp => t.sp = s.sp
  | .pc => t.pc = s.pc
  | .i => t.i = s.i
  | .r7 => t.r7 = s.r7
  | .rlo => t.rlo = s.rlo
  | .iff1 => t.iff1 = s.iff1
  | .iff2 => t.iff2 = s.iff2
  | .im => t.im = s.im
  | .halted => t.halted = s.halted
  | .throttle => t.throttle = s.throttle
  | .horizon => t.horizon = s.horizon
  | .ports => t.ports = s.ports
  | .hooks => t.hooks = s.hooks
  | .draws => t.draws = s.draws

/-- The parts a write to a pair changes. -/
def pairParts : RegPair → List Part
  | .bc => [.reg .b, .reg .c] | .de => [.reg .d, .reg .e] | .hl => [.reg .h, .reg .l] | .sp => [.sp]

/-- The parts a write to a pair of PUSH and POP changes. -/
def stackPairParts : StackPair → List Part
  | .bc => [.reg .b, .reg .c] | .de => [.reg .d, .reg .e] | .hl => [.reg .h, .reg .l] | .af => [.reg .a, .f]

/-- Nothing changes but the parts listed, the bytes of memory at the addresses listed, and the cycle counter. -/
def Frame (changed : List Part) (stored : List Word) (s t : State) : Prop :=
  (∀ p, p ∉ changed → p.same s t) ∧ ∀ a, a ∉ stored → t.readByte a = s.readByte a

/-- `exec i s` answers the next state `t`, takes `cost` T-states, and changes only the parts and bytes listed. -/
def Runs (i : Instr) (s t : State) (cost : Nat) (changed : List Part) (stored : List Word) : Prop :=
  exec i s = .next t ∧ t.cycles = s.cycles + cost ∧ Frame changed stored s t

/-- Where memory has its canonical form, `t` holds the byte `v` at the address. -/
def Holds (s t : State) (a : Word) (v : Byte) : Prop := s.mem.wf = true → t.readByte a = v

/-- The state after `n` steps, if none of them stops. -/
def stepTimes : Nat → State → Result
  | 0, s => .next s
  | n + 1, s =>
    match step s with
    | .next t => stepTimes n t
    | .fault r => .fault r
    | .refused r => .refused r

/-! ## Encodings -/

/-- The bytes decode to the instruction whatever follows them, `fetches` of them being opcode fetches. -/
def Encodes (bytes : List Byte) (fetches : Nat) (i : Instr) : Prop :=
  ∀ rest, decode (bytes ++ rest) = .ok ⟨i, bytes.length, fetches⟩

/-- A DD or FD prefix before the byte falls back (30_encoding.md R113). -/
def FallsBack (op : Byte) : Prop :=
  ∀ x rest, decode (x.prefixByte :: op :: rest) = .ok ⟨.prefixFallback x op, 1, 1⟩

/-- The length of an unprefixed instruction from its first byte (30_encoding.md R125, point 4). -/
def baseLength (op : Byte) : Nat :=
  let x := op.toNat / 64
  let y := op.toNat / 8 % 8
  let z := op.toNat % 8
  if (x = 0 ∧ z = 6) ∨ (x = 0 ∧ z = 0 ∧ 2 ≤ y) ∨ op = 0xD3 ∨ op = 0xDB ∨ (x = 3 ∧ z = 6) then 2
  else if (x = 0 ∧ z = 1 ∧ y % 2 = 0) ∨ op = 0x22 ∨ op = 0x2A ∨ op = 0x32 ∨ op = 0x3A ∨ op = 0xC3 ∨ op = 0xCD
      ∨ (x = 3 ∧ z = 2) ∨ (x = 3 ∧ z = 4) then 3
  else 1

/-- Whether an opcode byte has an `(X+d)` operand under a prefix (30_encoding.md R125, point 3). -/
def hasDisplacement (op : Byte) : Bool :=
  let x := op.toNat / 64
  let y := op.toNat / 8 % 8
  let z := op.toNat % 8
  op == 0x34 || op == 0x35 || op == 0x36 || (x == 1 && (y == 6 || z == 6)) || (x == 2 && z == 6)

/-- The length of an instruction from its first two bytes (30_encoding.md R125). -/
def lengthOf (b0 b1 : Byte) : Nat :=
  if b0 = 0xCB then 2
  else if b0 = 0xED then
    if b1 ∈ [(0x43 : Byte), 0x4B, 0x53, 0x5B, 0x63, 0x6B, 0x73, 0x7B] then 4 else 2
  else if b0 = 0xDD ∨ b0 = 0xFD then
    if usesHL b1 = false then 1
    else if b1 = 0xCB then 4
    else 1 + baseLength b1 + (if hasDisplacement b1 then 1 else 0)
  else baseLength b0

/-! ## Flag bytes in the spec's closed forms -/

/-- The flag byte of eight flags, in the order S, Z, F5, H, F3, PV, N, C (10_state.md R45). -/
def flagByte (s z f5 h f3 pv n c : Bool) : Byte :=
  flagIf s 0x80 ||| flagIf z 0x40 ||| flagIf f5 0x20 ||| flagIf h 0x10 ||| flagIf f3 0x08 ||| flagIf pv 0x04
    ||| flagIf n 0x02 ||| flagIf c 0x01

/-- Whether a byte has an even number of set bits (40_alu_flags.md R152). -/
def evenOnes (v : Byte) : Bool := (List.range 8).countP (fun k => v.getLsbD k) % 2 == 0

/-- The sum an addition keeps (40_alu_flags.md R157). -/
def sumOf (a b : Byte) (cin : Bool) : Byte := BitVec.ofNat 8 (a.toNat + b.toNat + cin.toNat)

/-- The difference a subtraction keeps (40_alu_flags.md R158). -/
def differenceOf (a b : Byte) (cin : Bool) : Byte := a - b - BitVec.ofNat 8 cin.toNat

/-- Half carry: "the carry out of bit 3" of an addition (40_alu_flags.md R155). -/
def halfCarry (a b : Byte) (cin : Bool) : Bool := decide (0xF < a.toNat % 16 + b.toNat % 16 + cin.toNat)

/-- Half carry: "the borrow out of bit 3" of a subtraction (40_alu_flags.md R155). -/
def halfBorrow (a b : Byte) (cin : Bool) : Bool := decide (a.toNat % 16 < b.toNat % 16 + cin.toNat)

/-- Signed overflow of an addition with result r (40_alu_flags.md R155). -/
def addOverflows (a b r : Byte) : Bool := (a ^^^ ~~~b) &&& (a ^^^ r) &&& 0x80 != 0

/-- Signed overflow of a subtraction with result r (40_alu_flags.md R155). -/
def subOverflows (a b r : Byte) : Bool := (a ^^^ b) &&& (a ^^^ r) &&& 0x80 != 0

/-- The flags of an addition (40_alu_flags.md R155, R157). -/
def addFlags (a b : Byte) (cin : Bool) : Byte :=
  let r := sumOf a b cin
  flagByte (r.getLsbD 7) (r == 0) (r.getLsbD 5) (halfCarry a b cin) (r.getLsbD 3) (addOverflows a b r) false
    (decide (255 < a.toNat + b.toNat + cin.toNat))

/-- The flags of a subtraction whose F5 and F3 are those of `u` (40_alu_flags.md R155, R158, R160). -/
def subFlagsFrom (u a b : Byte) (cin : Bool) : Byte :=
  let r := differenceOf a b cin
  flagByte (r.getLsbD 7) (r == 0) (u.getLsbD 5) (halfBorrow a b cin) (u.getLsbD 3) (subOverflows a b r) true
    (decide (a.toNat < b.toNat + cin.toNat))

/-- The flags of a subtraction (40_alu_flags.md R155, R158). -/
def subFlags (a b : Byte) (cin : Bool) : Byte := subFlagsFrom (differenceOf a b cin) a b cin

/-- The flags of a result whose PV is its parity, with the given H, N and C (40_alu_flags.md R151-R153). -/
def parityFlags (r : Byte) (h n c : Bool) : Byte :=
  flagByte (r.getLsbD 7) (r == 0) (r.getLsbD 5) h (r.getLsbD 3) (evenOnes r) n c

/-- A flag byte that keeps S, Z and PV of `old` and takes F5 and F3 from `u` (40_alu_flags.md R163, R167). -/
def keepSZP (old u : Byte) (h n c : Bool) : Byte :=
  flagByte (old.getLsbD 7) (old.getLsbD 6) (u.getLsbD 5) h (u.getLsbD 3) (old.getLsbD 2) n c

/-- The result of a rotate or shift and the bit it moves out, as bits put side by side (40_alu_flags.md R166). -/
def shifted (op : RotOp) (v : Byte) (cin : Bool) : Byte × Bool :=
  match op with
  | .rlc => (v.rotateLeft 1, v.getLsbD 7)
  | .rrc => (v.rotateRight 1, v.getLsbD 0)
  | .rl => (v.extractLsb' 0 7 ++ BitVec.ofBool cin, v.getLsbD 7)
  | .rr => ((BitVec.ofBool cin ++ v.extractLsb' 1 7 : BitVec (1 + 7)), v.getLsbD 0)
  | .sla => (v.extractLsb' 0 7 ++ 0#1, v.getLsbD 7)
  | .sra => ((v.extractLsb' 7 1 ++ v.extractLsb' 1 7 : BitVec (1 + 7)), v.getLsbD 0)
  | .sll => (v.extractLsb' 0 7 ++ 1#1, v.getLsbD 7)
  | .srl => ((0#1 ++ v.extractLsb' 1 7 : BitVec (1 + 7)), v.getLsbD 0)

/-- The flags of BIT: Z and PV are NOT of the tested bit, S is a set bit 7, C is kept (40_alu_flags.md R168). -/
def bitFlags (b : Index8) (v u old : Byte) : Byte :=
  flagByte (b == .i7 && v.getLsbD 7) (!v.getLsbD b.val) (u.getLsbD 5) true (u.getLsbD 3) (!v.getLsbD b.val) false
    (old.getLsbD 0)

/-! ## Instructions by what they may do -/

/-- EX AF,AF' and EXX (10_state.md R33). -/
def swapsShadow : Instr → Bool
  | .exAfAf | .exx => true
  | _ => false

/-- The instructions that write IFF1 or IFF2 (10_state.md R40). -/
def writesFlipFlops : Instr → Bool
  | .di | .ei | .retn | .reti => true
  | _ => false

/-- IM 0, IM 1 and IM 2 (10_state.md R41). -/
def writesMode : Instr → Bool
  | .im0 | .im1 | .im2 => true
  | _ => false

/-- The instructions that reach the port space (20_memory.md R71). -/
def reachesPorts : Instr → Bool
  | .inAN _ | .inRC _ | .inFC | .outNA _ | .outCR _ | .outC0 => true
  | .ini | .inir | .ind | .indr | .outi | .otir | .outd | .otdr => true
  | _ => false

/-- The instructions whose PC is not simply the address after them: jumps, calls, returns, restarts and the repeating
block instructions (10_state.md R37). -/
def movesPc : Instr → Bool
  | .jpNn _ | .jpCcNn _ _ | .jr _ | .jrCc _ _ | .jpHl | .jpX _ | .djnz _ => true
  | .callNn _ | .callCcNn _ _ | .rst _ | .ret | .retCc _ | .retn | .reti => true
  | .ldir | .lddr | .cpir | .cpdr | .inir | .indr | .otir | .otdr => true
  | _ => false

/-- The instructions that write F: the rows of opcode_table.json whose flags are not all "unchanged", and POP AF (10_state.md
R48). -/
def writesFlags : Instr → Bool
  | .popQq qq => qq == .af
  | .incMHl | .decMHl | .incR _ | .decR _ | .rlca | .rrca | .rla | .rra | .daa | .cpl | .scf | .ccf | .exAfAf => true
  | .addHlRp _ | .addAMHl | .addAR _ | .addAN _ | .adcAMHl | .adcAR _ | .adcAN _ | .subMHl | .subR _ | .subN _ => true
  | .sbcAMHl | .sbcAR _ | .sbcAN _ | .andMHl | .andR _ | .andN _ | .xorMHl | .xorR _ | .xorN _ | .orMHl | .orR _ => true
  | .orN _ | .cpMHl | .cpR _ | .cpN _ | .rlcMHl | .rlcR _ | .rrcMHl | .rrcR _ | .rlMHl | .rlR _ | .rrMHl => true
  | .rrR _ | .slaMHl | .slaR _ | .sraMHl | .sraR _ | .sllMHl | .sllR _ | .srlMHl | .srlR _ | .bitMHl _ => true
  | .bitR _ _ | .inFC | .inRC _ | .sbcHlRp _ | .adcHlRp _ | .neg | .ldAI | .ldAR | .rrd | .rld | .ldi | .ldir => true
  | .ldd | .lddr | .cpi | .cpir | .cpd | .cpdr | .ini | .inir | .ind | .indr | .outi | .otir | .outd | .otdr => true
  | .addXRp _ _ | .incXH _ | .decXH _ | .incXL _ | .decXL _ | .incXd _ _ | .decXd _ _ | .addAXd _ _ | .addAXH _ => true
  | .addAXL _ | .adcAXd _ _ | .adcAXH _ | .adcAXL _ | .subXd _ _ | .subXH _ | .subXL _ | .sbcAXd _ _ | .sbcAXH _ => true
  | .sbcAXL _ | .andXd _ _ | .andXH _ | .andXL _ | .xorXd _ _ | .xorXH _ | .xorXL _ | .orXd _ _ | .orXH _ => true
  | .orXL _ | .cpXd _ _ | .cpXH _ | .cpXL _ | .indexedBitSpace _ _ _ | .rlcXd _ _ | .rlcXdR _ _ _ | .rrcXd _ _ => true
  | .rrcXdR _ _ _ | .rlXd _ _ | .rlXdR _ _ _ | .rrXd _ _ | .rrXdR _ _ _ | .slaXd _ _ | .slaXdR _ _ _ => true
  | .sraXd _ _ | .sraXdR _ _ _ | .sllXd _ _ | .sllXdR _ _ _ | .srlXd _ _ | .srlXdR _ _ _ | .bitXd _ _ _ => true
  | .bitXdAlias _ _ _ _ => true
  | _ => false

/-! ## Results of instruction families -/

/-- The instruction runs in every state, writes A and F only, and gives A and F these values from its operand. -/
def WritesAF (i : Instr) (cost : Nat) (operand : State → Byte) (result flags : State → Byte → Byte) : Prop :=
  ∀ s, ∃ t, Runs i s t cost [.reg .a, .f] [] ∧ t.a = result s (operand s) ∧ t.f = flags s (operand s)

/-- The instruction runs in every state and changes register `r` and F to these values. -/
def WritesRegF (i : Instr) (cost : Nat) (r : Reg8) (result flags : State → Byte → Byte) : Prop :=
  ∀ s, ∃ t, Runs i s t cost [.reg r, .f] [] ∧ t.reg r = result s (s.reg r) ∧ t.f = flags s (s.reg r)

/-- The instruction runs in every state, stores to one address, and gives that byte and F these values from the byte there. -/
def StoresF (i : Instr) (cost : Nat) (address : State → Word) (result flags : State → Byte → Byte) : Prop :=
  ∀ s, ∃ t, Runs i s t cost [.f] [address s] ∧ Holds s t (address s) (result s (s.readByte (address s)))
    ∧ t.f = flags s (s.readByte (address s))

/-- The instruction runs in every state, writes F only, and gives it this value. -/
def WritesF (i : Instr) (cost : Nat) (flags : State → Byte) : Prop :=
  ∀ s, ∃ t, Runs i s t cost [.f] [] ∧ t.f = flags s

/-- An instruction of the indexed bit space runs in every state: it stores the result at the effective address and copies it
to the plain register `copy` when there is one (43_bit_rotate.md R312); F takes the value given. -/
def StoresAndCopies (i : Instr) (cost : Nat) (address : State → Word) (copy : Option Reg8) (changesF : Bool)
    (result flags : State → Byte → Byte) : Prop :=
  ∀ s, ∃ t, Runs i s t cost ((copy.toList.map Part.reg) ++ (if changesF then [.f] else [])) [address s]
    ∧ Holds s t (address s) (result s (s.readByte (address s)))
    ∧ (∀ r, copy = some r → t.reg r = result s (s.readByte (address s)))
    ∧ t.f = flags s (s.readByte (address s))

end Sys2Proof.Machine
end

