-- ==== Sys2Proof/Certificates/Slice0/Obligations.lean ====
section
/-! DEFINITION. The statements for the provers. Each one's docstring names the rules of spec/ it formalises. `Runs i s t c p m`
(Safety.lean) says that `exec i s` ANSWERS the next state `t`, takes `c` T-states, and leaves unchanged every part of the
state outside `p` and every byte of memory outside the addresses `m`. -/

section Slice0Statements

open Sys2Proof Sys2Proof.Machine

/-! ## Encoding -/

/-- DECODE AND ENCODE AGREE, for every well-formed instruction and every value of its operands, whatever bytes follow; a
fallen-back prefix carries the byte it peeked (log entry 10). R102, R103, R111-R122. -/
def Obligations.DecodeEncodeRoundTrip : Prop :=
  ∀ i : Instr, i.wellFormed = true → ∀ rest : List Byte,
    decode (encode i ++ lookahead i ++ rest) = .ok ⟨i, (encode i).length, opcodeFetches i⟩

/-- No encoding is illegal: any four bytes decode, to a well-formed instruction of 1 to 4 bytes (R102, R123) whose length is the
one R125 finds from the first two. -/
def Obligations.EveryByteSequenceDecodes : Prop :=
  ∀ (b0 b1 b2 b3 : Byte) (rest : List Byte), ∃ d, decode (b0 :: b1 :: b2 :: b3 :: rest) = .ok d
    ∧ d.instr.wellFormed = true ∧ 1 ≤ d.size ∧ d.size ≤ 4 ∧ d.size = lengthOf b0 b1

/-- Words written out from the encodings of the rules decode to the instructions they stand for. -/
def Obligations.SanityWords : Prop :=
  decode [0x3E, 0x42] = .ok ⟨.ldRN .a 0x42, 2, 1⟩
    ∧ decode [0x21, 0x34, 0x12] = .ok ⟨.ldRpNn .hl 0x1234, 3, 1⟩
    ∧ decode [0xCB, 0x7F] = .ok ⟨.bitR .i7 .a, 2, 2⟩
    ∧ decode [0xED, 0x6F] = .ok ⟨.rld, 2, 2⟩
    ∧ decode [0xED, 0xB0] = .ok ⟨.ldir, 2, 2⟩
    ∧ decode [0xED, 0x59] = .ok ⟨.outCR .e, 2, 2⟩
    ∧ decode [0xDD, 0x66, 0x02] = .ok ⟨.ldRXd .h .ix 0x02, 3, 2⟩
    ∧ decode [0xFD, 0x36, 0x05, 0xFF] = .ok ⟨.ldXdN .iy 0x05 0xFF, 4, 2⟩
    ∧ decode [0xDD, 0xCB, 0x03, 0x18] = .ok ⟨.rrXdR .ix 0x03 .b, 4, 2⟩
    ∧ decode [0xDD, 0xEB] = .ok ⟨.prefixFallback .ix 0xEB, 1, 1⟩

/-- UsesHL as R114 lists it: 86 bytes, and a prefix before any other byte falls back, before HALT under its own row (R113,
R114, R129). -/
def Obligations.FallbackBytes : Prop :=
  ((List.range 256).countP (fun n => usesHL (BitVec.ofNat 8 n)) = 86)
    ∧ (∀ op : Byte, usesHL op = true ↔
        op ∈ [(0x09 : Byte), 0x19, 0x29, 0x39, 0x21, 0x22, 0x2A, 0x23, 0x2B, 0x24, 0x25, 0x26, 0x2C, 0x2D, 0x2E, 0x34, 0x35,
            0x36, 0xCB, 0xE1, 0xE3, 0xE5, 0xE9, 0xF9]
          ∨ (op.toNat / 64 = 1 ∧ op ≠ 0x76 ∧ (op.toNat / 8 % 8 ∈ [4, 5, 6] ∨ op.toNat % 8 ∈ [4, 5, 6]))
          ∨ (op.toNat / 64 = 2 ∧ op.toNat % 8 ∈ [4, 5, 6]))
    ∧ (∀ op : Byte, usesHL op = false → op ≠ 0x76 → FallsBack op)
    ∧ ∀ (x : Idx) (rest : List Byte), decode (x.prefixByte :: 0x76 :: rest) = .ok ⟨.fallbackBeforeHalt x, 1, 1⟩

/-- The CB space by the fields x, y, z of its byte (R119). -/
def Obligations.CbSpaceByFields : Prop :=
  (∀ q : Reg8, Encodes [0xCB, 0b00000#5 ++ q.code] 2 (.rlcR q) ∧ Encodes [0xCB, 0b00001#5 ++ q.code] 2 (.rrcR q)
      ∧ Encodes [0xCB, 0b00010#5 ++ q.code] 2 (.rlR q) ∧ Encodes [0xCB, 0b00011#5 ++ q.code] 2 (.rrR q)
      ∧ Encodes [0xCB, 0b00100#5 ++ q.code] 2 (.slaR q) ∧ Encodes [0xCB, 0b00101#5 ++ q.code] 2 (.sraR q)
      ∧ Encodes [0xCB, 0b00110#5 ++ q.code] 2 (.sllR q) ∧ Encodes [0xCB, 0b00111#5 ++ q.code] 2 (.srlR q))
    ∧ (Encodes [0xCB, 0x06] 2 .rlcMHl ∧ Encodes [0xCB, 0x0E] 2 .rrcMHl ∧ Encodes [0xCB, 0x16] 2 .rlMHl
      ∧ Encodes [0xCB, 0x1E] 2 .rrMHl ∧ Encodes [0xCB, 0x26] 2 .slaMHl ∧ Encodes [0xCB, 0x2E] 2 .sraMHl
      ∧ Encodes [0xCB, 0x36] 2 .sllMHl ∧ Encodes [0xCB, 0x3E] 2 .srlMHl)
    ∧ ∀ y : Index8, (∀ q : Reg8, Encodes [0xCB, 0b01#2 ++ y.code ++ q.code] 2 (.bitR y q)
        ∧ Encodes [0xCB, 0b10#2 ++ y.code ++ q.code] 2 (.resR y q)
        ∧ Encodes [0xCB, 0b11#2 ++ y.code ++ q.code] 2 (.setR y q))
      ∧ Encodes [0xCB, 0b01#2 ++ y.code ++ 0b110#3] 2 (.bitMHl y)
      ∧ Encodes [0xCB, 0b10#2 ++ y.code ++ 0b110#3] 2 (.resMHl y)
      ∧ Encodes [0xCB, 0b11#2 ++ y.code ++ 0b110#3] 2 (.setMHl y)

/-! ## The step -/

/-- A STEP RUNS THE DECODED INSTRUCTION: when the step is not throttled and the core not halted, it is `exec` of what the
bytes at PC decode to, in the state after the fetches: PC past the instruction, Rlo and the hook's record grown by the
opcode fetches, a positive throttle one less (R100, R101, R103; the record is log entry 7). -/
def Obligations.StepRunsDecodedInstruction : Prop :=
  ∀ (s : State) (d : Decoded), s.throttle ≠ 0 → s.halted = false →
    decode [s.readByte s.pc, s.readByte (s.pc + 1), s.readByte (s.pc + 2), s.readByte (s.pc + 3)] = .ok d →
    step s = exec d.instr { s with
      throttle := if 0 < s.throttle then s.throttle - 1 else s.throttle
      pc := s.pc + BitVec.ofNat 16 d.size
      rlo := s.rlo + BitVec.ofNat 7 d.opcodeFetches
      hooks := s.hooks ++ (List.range d.opcodeFetches).map (fun k => s.pc + BitVec.ofNat 16 k) }

/-- A throttled step changes nothing; a halted step adds 4 T-states, takes one from a positive throttle, and changes nothing
else (R44, R100, R393, R452). -/
def Obligations.ThrottledAndHaltedSteps : Prop :=
  (∀ s : State, s.throttle = 0 → step s = .next s)
    ∧ ∀ s : State, s.throttle ≠ 0 → s.halted = true →
        step s = .next { s with
          throttle := if 0 < s.throttle then s.throttle - 1 else s.throttle
          cycles := s.cycles + 4 }

/-- No byte sequence, address or port value stops a step: every step of every state answers a next state (R123, R432, R448). -/
def Obligations.EveryStepCompletes : Prop := ∀ s : State, ∃ t, step s = .next t

/-- AN INVARIANT THAT EVERY STEP KEEPS: canonical memory (the model's choice, log entry 1), a legal interrupt mode, IFF1 only with
IFF2. -/
def Obligations.StepKeepsInvariant : Prop := ∀ s t : State, s.Inv → step s = .next t → t.Inv

/-- The invariant holds of a new engine, the state at construction (R51, R52). That its memory is canonical rests on the model's
choice of log entry 1. -/
def Obligations.ResetMeetsInvariant : Prop := State.reset.Inv

/-- Every move of the host keeps the invariant, but for a snapshot restore that stores IM = 3 (R437). Canonical memory is the
model's choice, log entry 1. -/
def Obligations.HostMovesKeepInvariant : Prop :=
  ∀ (s t : State) (m : HostAction), s.Inv → (∀ p, m = .restore p → p.im ≠ 3) → perform s m = .next t → t.Inv

/-- Neither the cycle counter nor the horizon reaches anything else: a step from a state that differs only there answers a
state that differs only there, by as much (R484). -/
def Obligations.CyclesAndHorizonAreNotRead : Prop :=
  ∀ (s t : State) (c h : Nat), step s = .next t →
    step { s with cycles := s.cycles + c, horizon := h } = .next { t with cycles := t.cycles + c, horizon := h }

/-- An instruction costs at least 4 and at most 23 T-states, once (R480, R481, R485), and never touches throttle, horizon or the
hook's record. -/
def Obligations.EveryInstructionCosts4To23 : Prop :=
  ∀ (i : Instr) (s t : State), exec i s = .next t →
    s.cycles + 4 ≤ t.cycles ∧ t.cycles ≤ s.cycles + 23
      ∧ t.throttle = s.throttle ∧ t.horizon = s.horizon ∧ t.hooks = s.hooks

/-! ## Rules of the whole machine -/

/-- Only EX AF,AF' and EXX change the shadow registers (R33), and only the input and output instructions reach the port space
(R71), where a read counts a draw (log entry 5). -/
def Obligations.ShadowAndPortsOnlyByTheirInstructions : Prop :=
  ∀ (i : Instr) (s t : State), exec i s = .next t →
    (swapsShadow i = false → t.shadow = s.shadow)
      ∧ (reachesPorts i = false → t.ports = s.ports)
      ∧ (reachesPorts i = false → (∀ b, i ≠ .bitMHl b) → t.draws = s.draws)

/-- I is written only by LD I,A (R39), R only by LD R,A and the fetches (R38), IM only by IM 0, IM 1 and IM 2, never with 3 (R41),
`halted` only by HALT (R42), and the flip-flops only by DI, EI, RETN and RETI (R40). -/
def Obligations.ControlRegisterWriters : Prop :=
  ∀ (i : Instr) (s t : State), exec i s = .next t →
    (i ≠ .ldIA → t.i = s.i) ∧ (i ≠ .ldRA → t.r7 = s.r7 ∧ t.rlo = s.rlo)
      ∧ (writesMode i = false → t.im = s.im) ∧ (writesMode i = true → t.im ≠ 3)
      ∧ (i ≠ .halt → t.halted = s.halted)
      ∧ (writesFlipFlops i = false → t.iff1 = s.iff1 ∧ t.iff2 = s.iff2)

/-- The instructions that R48 leaves out write no flag. -/
def Obligations.FlagsOnlyByFlagWriters : Prop :=
  ∀ (i : Instr) (s t : State), exec i s = .next t → writesFlags i = false → t.f = s.f

/-- Only jumps, calls, returns, restarts and repeating block instructions leave PC anywhere but after the instruction (R37). -/
def Obligations.PcOnlyByControlTransfer : Prop :=
  ∀ (i : Instr) (s t : State), exec i s = .next t → movesPc i = false → t.pc = s.pc

/-! ## Memory, pairs and views -/

/-- Little-endian word accesses that wrap (R74, R77), and reads that see the last write, on the reference bus (R82, R91), which is
the model's choice of collaborator (log entry 2). That a write keeps memory's canonical form is the model's own, log entry 1. -/
def Obligations.MemoryReadsTheLastWrite : Prop :=
  ∀ (s : State) (a b : Word) (v : Byte) (w : Word), s.mem.wf = true →
    (s.writeByte a v).readByte a = v
      ∧ (b ≠ a → (s.writeByte a v).readByte b = s.readByte b)
      ∧ (s.writeWord a w).readByte a = loByte w ∧ (s.writeWord a w).readByte (a + 1) = hiByte w
      ∧ (s.writeWord a w).readWord a = w
      ∧ (b ≠ a → b ≠ a + 1 → (s.writeWord a w).readByte b = s.readByte b)
      ∧ s.readWord 0xFFFF = mkWord (s.readByte 0x0000) (s.readByte 0xFFFF)
      ∧ (s.writeByte a v).mem.wf = true ∧ (s.writeWord a w).mem.wf = true

/-- A pair is its two halves: the views agree after a write of the pair and after a write of either half (R31, R34). R is R7 above
the 7-bit counter: a write sets both, an increment wraps in the counter and leaves R7 (R38). -/
def Obligations.RegisterViews : Prop :=
  ∀ (s : State) (w : Word) (v : Byte) (n : Nat),
    (s.bc = mkWord (s.reg .b) (s.reg .c) ∧ s.de = mkWord (s.reg .d) (s.reg .e) ∧ s.hl = mkWord (s.reg .h) (s.reg .l)
        ∧ s.af = mkWord s.a s.f ∧ ∀ x, s.idx x = mkWord (s.xh x) (s.xl x))
      ∧ (∀ rp, (s.setPair rp w).pair rp = w)
      ∧ (∀ qq, (s.setStackPair qq w).stackPair qq = w)
      ∧ ((s.setReg .b v).bc = mkWord v (s.reg .c) ∧ (s.setReg .c v).bc = mkWord (s.reg .b) v
        ∧ (s.setReg .d v).de = mkWord v (s.reg .e) ∧ (s.setReg .e v).de = mkWord (s.reg .d) v
        ∧ (s.setReg .h v).hl = mkWord v (s.reg .l) ∧ (s.setReg .l v).hl = mkWord (s.reg .h) v)
      ∧ (∀ x, (s.setIdx x w).idx x = w ∧ (s.setXh x v).idx x = mkWord v (s.xl x) ∧ (s.setXl x v).idx x = mkWord (s.xh x) v)
      ∧ s.refresh.toNat = (if s.r7 then 128 else 0) + s.rlo.toNat
      ∧ (s.setRefresh v).refresh = v ∧ (s.setRefresh v).r7 = v.getLsbD 7 ∧ (s.setRefresh v).rlo.toNat = v.toNat % 128
      ∧ (s.countRefresh n).r7 = s.r7 ∧ (s.countRefresh n).rlo.toNat = (s.rlo.toNat + n) % 128

/-! ## The flag tables and the ALU -/

/-- The flag tables as properties of bits (R151-R153), and the add and subtract primitives in the closed forms of R155: the sum or
difference modulo 256, H the carry or borrow of bit 3, PV the signed overflow, C the carry or borrow of bit 7 (R157, R158). -/
def Obligations.FlagTablesAndClosedForms : Prop :=
  (∀ v : Byte, sz53 v = flagByte (v.getLsbD 7) (v == 0) (v.getLsbD 5) false (v.getLsbD 3) false false false
    ∧ par v = flagByte false false false false false (evenOnes v) false false
    ∧ sz53p v = sz53 v ||| par v)
    ∧ ∀ (a b : Byte) (cin : Bool),
    add8 a b cin = (sumOf a b cin, addFlags a b cin) ∧ sub8 a b cin = (differenceOf a b cin, subFlags a b cin)
      ∧ (addOverflows a b (sumOf a b cin) = true ↔
          (a.toInt + b.toInt + cin.toNat < -128 ∨ 127 < a.toInt + b.toInt + cin.toNat))
      ∧ (subOverflows a b (differenceOf a b cin) = true ↔
          (a.toInt - b.toInt - cin.toNat < -128 ∨ 127 < a.toInt - b.toInt - cin.toNat))

/-- ADD then SUB of the same byte restores the accumulator, with the flags R174 gives. -/
def Obligations.AddThenSubtract : Prop :=
  ∀ a b : Byte, (sub8 (add8 a b false).1 b false).1 = a
    ∧ (hasFlag (sub8 (add8 a b false).1 b false).2 fC = true ↔ 255 < a.toNat + b.toNat)
    ∧ (hasFlag (sub8 (add8 a b false).1 b false).2 fZ = true ↔ a = 0)
    ∧ hasFlag (sub8 (add8 a b false).1 b false).2 fN = true

/-- DAA after the addition of two packed BCD numbers gives their BCD sum, with C the carry out of the hundreds (derived from
R157 and R170). -/
def Obligations.DaaCorrectsBcdAddition : Prop :=
  ∀ (h1 l1 h2 l2 : Fin 10) (cin : Bool),
    let sum := 10 * h1.val + l1.val + (10 * h2.val + l2.val) + cin.toNat
    let rf := add8 (BitVec.ofNat 8 (16 * h1.val + l1.val)) (BitVec.ofNat 8 (16 * h2.val + l2.val)) cin
    (daa rf.1 rf.2).1 = BitVec.ofNat 8 (16 * (sum / 10 % 10) + sum % 10)
      ∧ (hasFlag (daa rf.1 rf.2).2 fC = true ↔ 100 ≤ sum)

/-! ## Loads -/

/-- LD r,r' (R200) and LD r,n (R201) in all their forms: a prefixed form with H or L means XH or XL, in both fields; 0x76 is
HALT; a prefixed form that names neither falls back. -/
def Obligations.RegisterLoads : Prop :=
  (∀ r q : Reg8, Encodes [0b01#2 ++ r.code ++ q.code] 1 (.ldRR r q)
      ∧ (r.isHOrL = false → q.isHOrL = false → FallsBack (0b01#2 ++ r.code ++ q.code)))
    ∧ Encodes [0x76] 1 .halt
    ∧ (∀ (r : Reg8) (x : Idx), Encodes [x.prefixByte, 0b01#2 ++ r.code ++ 0b100#3] 2 (.ldRXH r x)
      ∧ Encodes [x.prefixByte, 0b01#2 ++ r.code ++ 0b101#3] 2 (.ldRXL r x)
      ∧ (r.isHOrL = false → Encodes [x.prefixByte, 0b01100#5 ++ r.code] 2 (.ldXHR x r)
        ∧ Encodes [x.prefixByte, 0b01101#5 ++ r.code] 2 (.ldXLR x r)))
    ∧ (∀ (r : Reg8) (n : Byte), Encodes [0b00#2 ++ r.code ++ 0b110#3, n] 1 (.ldRN r n)
      ∧ (r.isHOrL = false → FallsBack (0b00#2 ++ r.code ++ 0b110#3)))
    ∧ (∀ (x : Idx) (n : Byte), Encodes [x.prefixByte, 0x26, n] 2 (.ldXHN x n) ∧ Encodes [x.prefixByte, 0x2E, n] 2 (.ldXLN x n))
    ∧ ∀ s : State,
      (∀ r q, ∃ t, Runs (.ldRR r q) s t 4 [.reg r] [] ∧ t.reg r = s.reg q)
        ∧ (∀ r n, ∃ t, Runs (.ldRN r n) s t 7 [.reg r] [] ∧ t.reg r = n)
        ∧ ∀ x : Idx,
          (∀ r, r.isHOrL = false →
            (∃ t, Runs (.ldRXH r x) s t 8 [.reg r] [] ∧ t.reg r = s.xh x)
              ∧ (∃ t, Runs (.ldRXL r x) s t 8 [.reg r] [] ∧ t.reg r = s.xl x)
              ∧ (∃ t, Runs (.ldXHR x r) s t 8 [.idx x] [] ∧ t.xh x = s.reg r ∧ t.xl x = s.xl x)
              ∧ ∃ t, Runs (.ldXLR x r) s t 8 [.idx x] [] ∧ t.xl x = s.reg r ∧ t.xh x = s.xh x)
            ∧ (∃ t, Runs (.ldRXH .h x) s t 8 [.idx x] [] ∧ t.idx x = s.idx x)
            ∧ (∃ t, Runs (.ldRXL .h x) s t 8 [.idx x] [] ∧ t.xh x = s.xl x ∧ t.xl x = s.xl x)
            ∧ (∃ t, Runs (.ldRXH .l x) s t 8 [.idx x] [] ∧ t.xh x = s.xh x ∧ t.xl x = s.xh x)
            ∧ (∃ t, Runs (.ldRXL .l x) s t 8 [.idx x] [] ∧ t.idx x = s.idx x)
            ∧ ∀ n, (∃ t, Runs (.ldXHN x n) s t 11 [.idx x] [] ∧ t.xh x = n ∧ t.xl x = s.xl x)
              ∧ ∃ t, Runs (.ldXLN x n) s t 11 [.idx x] [] ∧ t.xl x = n ∧ t.xh x = s.xh x

/-- The loads of a byte from memory: LD r,(HL) and LD r,(X+d), whose r is never substituted (R202), LD A,(BC) (R205), LD A,(DE)
(R206), LD A,(nn) (R207). -/
def Obligations.ByteLoads : Prop :=
  (∀ r : Reg8, Encodes [0b01#2 ++ r.code ++ 0b110#3] 1 (.ldRMHl r)
      ∧ ∀ x d, Encodes [x.prefixByte, 0b01#2 ++ r.code ++ 0b110#3, d] 2 (.ldRXd r x d))
    ∧ Encodes [0x0A] 1 .ldAMBc ∧ FallsBack 0x0A ∧ Encodes [0x1A] 1 .ldAMDe ∧ FallsBack 0x1A
    ∧ (∀ lo hi, Encodes [0x3A, lo, hi] 1 (.ldAMNn (mkWord hi lo)))
    ∧ ∀ s : State,
      (∀ r, ∃ t, Runs (.ldRMHl r) s t 7 [.reg r] [] ∧ t.reg r = s.readByte s.hl)
        ∧ (∀ r x d, ∃ t, Runs (.ldRXd r x d) s t 19 [.reg r] []
          ∧ t.reg r = s.readByte (s.idx x + BitVec.ofInt 16 d.toInt))
        ∧ (∃ t, Runs .ldAMBc s t 7 [.reg .a] [] ∧ t.a = s.readByte s.bc)
        ∧ (∃ t, Runs .ldAMDe s t 7 [.reg .a] [] ∧ t.a = s.readByte s.de)
        ∧ ∀ nn, ∃ t, Runs (.ldAMNn nn) s t 13 [.reg .a] [] ∧ t.a = s.readByte nn

/-- The stores of a byte: LD (HL),r and LD (X+d),r, whose source is never substituted (R203), LD (HL),n and LD (X+d),n, the
displacement before the immediate (R204), LD (BC),A (R208), LD (DE),A (R209), LD (nn),A (R210). -/
def Obligations.ByteStores : Prop :=
  (∀ q : Reg8, Encodes [0b01110#5 ++ q.code] 1 (.ldMHlR q) ∧ ∀ x d, Encodes [x.prefixByte, 0b01110#5 ++ q.code, d] 2 (.ldXdR x q d))
    ∧ (∀ n, Encodes [0x36, n] 1 (.ldMHlN n) ∧ ∀ x d, Encodes [x.prefixByte, 0x36, d, n] 2 (.ldXdN x d n))
    ∧ Encodes [0x02] 1 .ldMBcA ∧ Encodes [0x12] 1 .ldMDeA ∧ (∀ lo hi, Encodes [0x32, lo, hi] 1 (.ldMNnA (mkWord hi lo)))
    ∧ ∀ s : State,
      (∀ q, ∃ t, Runs (.ldMHlR q) s t 7 [] [s.hl] ∧ Holds s t s.hl (s.reg q))
        ∧ (∀ x q d, ∃ t, Runs (.ldXdR x q d) s t 19 [] [s.ea x d] ∧ Holds s t (s.ea x d) (s.reg q))
        ∧ (∀ n, ∃ t, Runs (.ldMHlN n) s t 10 [] [s.hl] ∧ Holds s t s.hl n)
        ∧ (∀ x d n, ∃ t, Runs (.ldXdN x d n) s t 19 [] [s.ea x d] ∧ Holds s t (s.ea x d) n)
        ∧ (∃ t, Runs .ldMBcA s t 7 [] [s.bc] ∧ Holds s t s.bc s.a)
        ∧ (∃ t, Runs .ldMDeA s t 7 [] [s.de] ∧ Holds s t s.de s.a)
        ∧ (∀ nn, ∃ t, Runs (.ldMNnA nn) s t 13 [] [nn] ∧ Holds s t nn s.a)
        ∧ ∀ x d, s.ea x d = s.idx x + BitVec.ofInt 16 d.toInt

/-- LD A,I, LD A,R, LD I,A and LD R,A (R211-R214): PV after the first two is IFF2, C is kept, H and N are 0. In a whole step LD A,R
reads R after its own two increments, and LD R,A writes it after them. -/
def Obligations.SpecialRegisterLoads : Prop :=
  Encodes [0xED, 0x57] 2 .ldAI ∧ Encodes [0xED, 0x5F] 2 .ldAR ∧ Encodes [0xED, 0x47] 2 .ldIA ∧ Encodes [0xED, 0x4F] 2 .ldRA
    ∧ WritesAF .ldAI 9 (·.i) (fun _ v => v) (fun s v =>
      flagByte (v.getLsbD 7) (v == 0) (v.getLsbD 5) false (v.getLsbD 3) s.iff2 false (s.f.getLsbD 0))
    ∧ WritesAF .ldAR 9 (·.refresh) (fun _ v => v) (fun s v =>
      flagByte (v.getLsbD 7) (v == 0) (v.getLsbD 5) false (v.getLsbD 3) s.iff2 false (s.f.getLsbD 0))
    ∧ ∀ s : State,
      (∃ t, Runs .ldIA s t 9 [.i] [] ∧ t.i = s.a)
        ∧ (∃ t, Runs .ldRA s t 9 [.r7, .rlo] [] ∧ t.r7 = s.a.getLsbD 7 ∧ t.rlo.toNat = s.a.toNat % 128)
        ∧ (s.throttle ≠ 0 → s.halted = false → s.readByte s.pc = 0xED → s.readByte (s.pc + 1) = 0x5F →
          ∃ t, step s = .next t ∧ t.r7 = s.r7 ∧ t.rlo = s.rlo + 2
            ∧ t.a.toNat = (if s.r7 then 128 else 0) + (s.rlo.toNat + 2) % 128)
        ∧ (s.throttle ≠ 0 → s.halted = false → s.readByte s.pc = 0xED → s.readByte (s.pc + 1) = 0x4F →
          ∃ t, step s = .next t ∧ t.refresh = s.a)

/-- The 16-bit loads: LD rp,nn and LD X,nn (R215), LD HL,(nn) and LD X,(nn) (R216), LD rp,(nn) (R217), LD SP,HL and
LD SP,X (R220); and the 16-bit stores: LD (nn),HL and LD (nn),X (R218), LD (nn),rp (R219). The word in memory has its low byte at nn and its high byte at the next address, which wraps. -/
def Obligations.WordLoadsAndStores : Prop :=
  (∀ (rp : RegPair) (lo hi : Byte), Encodes [0b00#2 ++ rp.code ++ 0b0001#4, lo, hi] 1 (.ldRpNn rp (mkWord hi lo))
      ∧ Encodes [0xED, 0b01#2 ++ rp.code ++ 0b1011#4, lo, hi] 2 (.ldRpMNn rp (mkWord hi lo))
      ∧ Encodes [0x2A, lo, hi] 1 (.ldHlMNn (mkWord hi lo))
      ∧ ∀ x : Idx, Encodes [x.prefixByte, 0x21, lo, hi] 2 (.ldXNn x (mkWord hi lo))
        ∧ Encodes [x.prefixByte, 0x2A, lo, hi] 2 (.ldXMNn x (mkWord hi lo)))
    ∧ FallsBack 0x01 ∧ FallsBack 0x11 ∧ FallsBack 0x31 ∧ FallsBack 0xED
    ∧ Encodes [0xF9] 1 .ldSpHl ∧ (∀ x : Idx, Encodes [x.prefixByte, 0xF9] 2 (.ldSpX x))
    ∧ (∀ (s : State) (nn : Word),
      (∀ rp, ∃ t, Runs (.ldRpNn rp nn) s t 10 (pairParts rp) [] ∧ t.pair rp = nn)
        ∧ (∀ x, ∃ t, Runs (.ldXNn x nn) s t 14 [.idx x] [] ∧ t.idx x = nn)
        ∧ (∃ t, Runs (.ldHlMNn nn) s t 16 [.reg .h, .reg .l] [] ∧ t.reg .l = s.readByte nn ∧ t.reg .h = s.readByte (nn + 1))
        ∧ (∀ x, ∃ t, Runs (.ldXMNn x nn) s t 20 [.idx x] [] ∧ t.xl x = s.readByte nn ∧ t.xh x = s.readByte (nn + 1))
        ∧ (∀ rp, ∃ t, Runs (.ldRpMNn rp nn) s t 20 (pairParts rp) []
          ∧ t.pair rp = mkWord (s.readByte (nn + 1)) (s.readByte nn))
        ∧ (∃ t, Runs .ldSpHl s t 6 [.sp] [] ∧ t.sp = s.hl)
        ∧ ∀ x, ∃ t, Runs (.ldSpX x) s t 10 [.sp] [] ∧ t.sp = s.idx x)
    ∧ (∀ lo hi : Byte, Encodes [0x22, lo, hi] 1 (.ldMNnHl (mkWord hi lo))
      ∧ (∀ x : Idx, Encodes [x.prefixByte, 0x22, lo, hi] 2 (.ldMNnX x (mkWord hi lo)))
      ∧ ∀ rp : RegPair, Encodes [0xED, 0b01#2 ++ rp.code ++ 0b0011#4, lo, hi] 2 (.ldMNnRp rp (mkWord hi lo)))
    ∧ ∀ (s : State) (nn : Word),
      (∃ t, Runs (.ldMNnHl nn) s t 16 [] [nn, nn + 1] ∧ Holds s t nn (s.reg .l) ∧ Holds s t (nn + 1) (s.reg .h))
        ∧ (∀ x, ∃ t, Runs (.ldMNnX x nn) s t 20 [] [nn, nn + 1] ∧ Holds s t nn (s.xl x) ∧ Holds s t (nn + 1) (s.xh x))
        ∧ ∀ rp, ∃ t, Runs (.ldMNnRp rp nn) s t 20 [] [nn, nn + 1] ∧ Holds s t nn (loByte (s.pair rp))
          ∧ Holds s t (nn + 1) (hiByte (s.pair rp))

/-- PUSH (R221) and POP (R222), with SP modulo 2^16; POP AF writes all 8 bits of F; what PUSH stores, POP gives back, and SP with
it (R75). -/
def Obligations.PushAndPop : Prop :=
  (∀ qq : StackPair, Encodes [0b11#2 ++ qq.code ++ 0b0101#4] 1 (.pushQq qq) ∧ Encodes [0b11#2 ++ qq.code ++ 0b0001#4] 1 (.popQq qq))
    ∧ (∀ x : Idx, Encodes [x.prefixByte, 0xE5] 2 (.pushX x) ∧ Encodes [x.prefixByte, 0xE1] 2 (.popX x))
    ∧ (∀ s : State,
      (∀ qq, ∃ t, Runs (.pushQq qq) s t 11 [.sp] [s.sp - 2, s.sp - 1] ∧ t.sp = s.sp - 2
        ∧ Holds s t (s.sp - 2) (loByte (s.stackPair qq)) ∧ Holds s t (s.sp - 1) (hiByte (s.stackPair qq)))
        ∧ (∀ x, ∃ t, Runs (.pushX x) s t 15 [.sp] [s.sp - 2, s.sp - 1] ∧ t.sp = s.sp - 2
          ∧ Holds s t (s.sp - 2) (s.xl x) ∧ Holds s t (s.sp - 1) (s.xh x))
        ∧ (∀ qq, ∃ t, Runs (.popQq qq) s t 10 (.sp :: stackPairParts qq) [] ∧ t.sp = s.sp + 2
          ∧ t.stackPair qq = mkWord (s.readByte (s.sp + 1)) (s.readByte s.sp))
        ∧ (∃ t, exec (.popQq .af) s = .next t ∧ t.f = s.readByte s.sp ∧ t.a = s.readByte (s.sp + 1))
        ∧ ∀ x, ∃ t, Runs (.popX x) s t 14 [.sp, .idx x] [] ∧ t.sp = s.sp + 2
          ∧ t.xl x = s.readByte s.sp ∧ t.xh x = s.readByte (s.sp + 1))
    ∧ ∀ (s t u : State) (qq qq' : StackPair), s.mem.wf = true → exec (.pushQq qq) s = .next t → exec (.popQq qq') t = .next u →
      u.stackPair qq' = s.stackPair qq ∧ u.sp = s.sp

/-- The exchanges: EX DE,HL, also under a prefix (R223), EX AF,AF' (R224), EXX (R225), EX (SP),HL and EX (SP),X (R226). -/
def Obligations.Exchanges : Prop :=
  Encodes [0xEB] 1 .exDeHl ∧ FallsBack 0xEB ∧ Encodes [0x08] 1 .exAfAf ∧ Encodes [0xD9] 1 .exx ∧ FallsBack 0xD9
    ∧ Encodes [0xE3] 1 .exMSpHl ∧ (∀ x : Idx, Encodes [x.prefixByte, 0xE3] 2 (.exMSpX x))
    ∧ ∀ s : State,
      (∃ t, Runs .exDeHl s t 4 [.reg .d, .reg .e, .reg .h, .reg .l] [] ∧ t.reg .d = s.reg .h ∧ t.reg .e = s.reg .l
        ∧ t.reg .h = s.reg .d ∧ t.reg .l = s.reg .e)
        ∧ (∃ t, Runs .exAfAf s t 4 [.reg .a, .f, .shadow] [] ∧ t.a = s.shadow.a ∧ t.f = s.shadow.f
          ∧ t.shadow = { s.shadow with a := s.a, f := s.f })
        ∧ (∃ t, Runs .exx s t 4 [.reg .b, .reg .c, .reg .d, .reg .e, .reg .h, .reg .l, .shadow] []
          ∧ (∀ r, r ≠ .a → t.reg r = s.shadow.get r ∧ t.shadow.get r = s.reg r)
          ∧ t.shadow.a = s.shadow.a ∧ t.shadow.f = s.shadow.f)
        ∧ (∃ t, Runs .exMSpHl s t 19 [.reg .h, .reg .l] [s.sp, s.sp + 1] ∧ t.reg .l = s.readByte s.sp
          ∧ t.reg .h = s.readByte (s.sp + 1) ∧ Holds s t s.sp (s.reg .l) ∧ Holds s t (s.sp + 1) (s.reg .h))
        ∧ ∀ x, ∃ t, Runs (.exMSpX x) s t 23 [.idx x] [s.sp, s.sp + 1] ∧ t.xl x = s.readByte s.sp
          ∧ t.xh x = s.readByte (s.sp + 1) ∧ Holds s t s.sp (s.xl x) ∧ Holds s t (s.sp + 1) (s.xh x)

/-! ## 8-bit arithmetic and logic -/

/-- ADD A,s (R250) and ADC A,s (R251) in their five operand forms, with the closed forms of R155 and R157. -/
def Obligations.Addition : Prop :=
  (∀ q : Reg8, Encodes [0b10000#5 ++ q.code] 1 (.addAR q) ∧ (q.isHOrL = false → FallsBack (0b10000#5 ++ q.code)))
    ∧ Encodes [0x86] 1 .addAMHl ∧ (∀ n, Encodes [0xC6, n] 1 (.addAN n)) ∧ FallsBack 0xC6
    ∧ (∀ x : Idx, Encodes [x.prefixByte, 0x84] 2 (.addAXH x) ∧ Encodes [x.prefixByte, 0x85] 2 (.addAXL x)
      ∧ ∀ d, Encodes [x.prefixByte, 0x86, d] 2 (.addAXd x d))
    ∧ (∀ q : Reg8, Encodes [0b10001#5 ++ q.code] 1 (.adcAR q) ∧ (q.isHOrL = false → FallsBack (0b10001#5 ++ q.code)))
    ∧ Encodes [0x8E] 1 .adcAMHl ∧ (∀ n, Encodes [0xCE, n] 1 (.adcAN n)) ∧ FallsBack 0xCE
    ∧ (∀ x : Idx, Encodes [x.prefixByte, 0x8C] 2 (.adcAXH x) ∧ Encodes [x.prefixByte, 0x8D] 2 (.adcAXL x)
      ∧ ∀ d, Encodes [x.prefixByte, 0x8E, d] 2 (.adcAXd x d))
    ∧ (∀ q, WritesAF (.addAR q) 4 (·.reg q) (fun s v => sumOf s.a v false) (fun s v => addFlags s.a v false))
    ∧ (WritesAF .addAMHl 7 (fun s => s.readByte s.hl) (fun s v => sumOf s.a v false) (fun s v => addFlags s.a v false))
    ∧ (∀ n, WritesAF (.addAN n) 7 (fun _ => n) (fun s v => sumOf s.a v false) (fun s v => addFlags s.a v false))
    ∧ (∀ x d, WritesAF (.addAXd x d) 19 (fun s => s.readByte (s.ea x d)) (fun s v => sumOf s.a v false) (fun s v => addFlags s.a v false))
    ∧ (∀ x, WritesAF (.addAXH x) 8 (·.xh x) (fun s v => sumOf s.a v false) (fun s v => addFlags s.a v false))
    ∧ (∀ x, WritesAF (.addAXL x) 8 (·.xl x) (fun s v => sumOf s.a v false) (fun s v => addFlags s.a v false))
    ∧ (∀ q, WritesAF (.adcAR q) 4 (·.reg q) (fun s v => sumOf s.a v (s.f.getLsbD 0)) (fun s v => addFlags s.a v (s.f.getLsbD 0)))
    ∧ (WritesAF .adcAMHl 7 (fun s => s.readByte s.hl) (fun s v => sumOf s.a v (s.f.getLsbD 0)) (fun s v => addFlags s.a v (s.f.getLsbD 0)))
    ∧ (∀ n, WritesAF (.adcAN n) 7 (fun _ => n) (fun s v => sumOf s.a v (s.f.getLsbD 0)) (fun s v => addFlags s.a v (s.f.getLsbD 0)))
    ∧ (∀ x d, WritesAF (.adcAXd x d) 19 (fun s => s.readByte (s.ea x d)) (fun s v => sumOf s.a v (s.f.getLsbD 0)) (fun s v => addFlags s.a v (s.f.getLsbD 0)))
    ∧ (∀ x, WritesAF (.adcAXH x) 8 (·.xh x) (fun s v => sumOf s.a v (s.f.getLsbD 0)) (fun s v => addFlags s.a v (s.f.getLsbD 0)))
    ∧ (∀ x, WritesAF (.adcAXL x) 8 (·.xl x) (fun s v => sumOf s.a v (s.f.getLsbD 0)) (fun s v => addFlags s.a v (s.f.getLsbD 0)))

/-- SUB s (R252), SBC A,s (R253) and CP s (R257) in their five operand forms, with the closed forms of R155, R158 and R160: CP
writes F only, with F5 and F3 from the operand. -/
def Obligations.SubtractAndCompare : Prop :=
  (∀ q : Reg8, Encodes [0b10010#5 ++ q.code] 1 (.subR q) ∧ (q.isHOrL = false → FallsBack (0b10010#5 ++ q.code)))
    ∧ Encodes [0x96] 1 .subMHl ∧ (∀ n, Encodes [0xD6, n] 1 (.subN n)) ∧ FallsBack 0xD6
    ∧ (∀ x : Idx, Encodes [x.prefixByte, 0x94] 2 (.subXH x) ∧ Encodes [x.prefixByte, 0x95] 2 (.subXL x)
      ∧ ∀ d, Encodes [x.prefixByte, 0x96, d] 2 (.subXd x d))
    ∧ (∀ q : Reg8, Encodes [0b10011#5 ++ q.code] 1 (.sbcAR q) ∧ (q.isHOrL = false → FallsBack (0b10011#5 ++ q.code)))
    ∧ Encodes [0x9E] 1 .sbcAMHl ∧ (∀ n, Encodes [0xDE, n] 1 (.sbcAN n)) ∧ FallsBack 0xDE
    ∧ (∀ x : Idx, Encodes [x.prefixByte, 0x9C] 2 (.sbcAXH x) ∧ Encodes [x.prefixByte, 0x9D] 2 (.sbcAXL x)
      ∧ ∀ d, Encodes [x.prefixByte, 0x9E, d] 2 (.sbcAXd x d))
    ∧ (∀ q, WritesAF (.subR q) 4 (·.reg q) (fun s v => differenceOf s.a v false) (fun s v => subFlags s.a v false))
    ∧ (WritesAF .subMHl 7 (fun s => s.readByte s.hl) (fun s v => differenceOf s.a v false) (fun s v => subFlags s.a v false))
    ∧ (∀ n, WritesAF (.subN n) 7 (fun _ => n) (fun s v => differenceOf s.a v false) (fun s v => subFlags s.a v false))
    ∧ (∀ x d, WritesAF (.subXd x d) 19 (fun s => s.readByte (s.ea x d)) (fun s v => differenceOf s.a v false) (fun s v => subFlags s.a v false))
    ∧ (∀ x, WritesAF (.subXH x) 8 (·.xh x) (fun s v => differenceOf s.a v false) (fun s v => subFlags s.a v false))
    ∧ (∀ x, WritesAF (.subXL x) 8 (·.xl x) (fun s v => differenceOf s.a v false) (fun s v => subFlags s.a v false))
    ∧ (∀ q, WritesAF (.sbcAR q) 4 (·.reg q) (fun s v => differenceOf s.a v (s.f.getLsbD 0)) (fun s v => subFlags s.a v (s.f.getLsbD 0)))
    ∧ (WritesAF .sbcAMHl 7 (fun s => s.readByte s.hl) (fun s v => differenceOf s.a v (s.f.getLsbD 0)) (fun s v => subFlags s.a v (s.f.getLsbD 0)))
    ∧ (∀ n, WritesAF (.sbcAN n) 7 (fun _ => n) (fun s v => differenceOf s.a v (s.f.getLsbD 0)) (fun s v => subFlags s.a v (s.f.getLsbD 0)))
    ∧ (∀ x d, WritesAF (.sbcAXd x d) 19 (fun s => s.readByte (s.ea x d)) (fun s v => differenceOf s.a v (s.f.getLsbD 0)) (fun s v => subFlags s.a v (s.f.getLsbD 0)))
    ∧ (∀ x, WritesAF (.sbcAXH x) 8 (·.xh x) (fun s v => differenceOf s.a v (s.f.getLsbD 0)) (fun s v => subFlags s.a v (s.f.getLsbD 0)))
    ∧ (∀ x, WritesAF (.sbcAXL x) 8 (·.xl x) (fun s v => differenceOf s.a v (s.f.getLsbD 0)) (fun s v => subFlags s.a v (s.f.getLsbD 0)))
    ∧ (∀ q : Reg8, Encodes [0b10111#5 ++ q.code] 1 (.cpR q) ∧ (q.isHOrL = false → FallsBack (0b10111#5 ++ q.code)))
    ∧ Encodes [0xBE] 1 .cpMHl ∧ (∀ n, Encodes [0xFE, n] 1 (.cpN n)) ∧ FallsBack 0xFE
    ∧ (∀ x : Idx, Encodes [x.prefixByte, 0xBC] 2 (.cpXH x) ∧ Encodes [x.prefixByte, 0xBD] 2 (.cpXL x)
      ∧ ∀ d, Encodes [x.prefixByte, 0xBE, d] 2 (.cpXd x d))
    ∧ (∀ q, WritesF (.cpR q) 4 (fun s => subFlagsFrom (s.reg q) s.a (s.reg q) false))
    ∧ (WritesF .cpMHl 7 (fun s => subFlagsFrom (s.readByte s.hl) s.a (s.readByte s.hl) false))
    ∧ (∀ n, WritesF (.cpN n) 7 (fun s => subFlagsFrom (n) s.a (n) false))
    ∧ (∀ x d, WritesF (.cpXd x d) 19 (fun s => subFlagsFrom (s.readByte (s.ea x d)) s.a (s.readByte (s.ea x d)) false))
    ∧ (∀ x, WritesF (.cpXH x) 8 (fun s => subFlagsFrom (s.xh x) s.a (s.xh x) false))
    ∧ (∀ x, WritesF (.cpXL x) 8 (fun s => subFlagsFrom (s.xl x) s.a (s.xl x) false))

/-- AND s (R254), XOR s (R255) and OR s (R256) in their five operand forms: PV is the parity, H is 1 for AND only, N = C = 0 (R159). -/
def Obligations.AndXorOr : Prop :=
  (∀ q : Reg8, Encodes [0b10100#5 ++ q.code] 1 (.andR q) ∧ (q.isHOrL = false → FallsBack (0b10100#5 ++ q.code)))
    ∧ Encodes [0xA6] 1 .andMHl ∧ (∀ n, Encodes [0xE6, n] 1 (.andN n)) ∧ FallsBack 0xE6
    ∧ (∀ x : Idx, Encodes [x.prefixByte, 0xA4] 2 (.andXH x) ∧ Encodes [x.prefixByte, 0xA5] 2 (.andXL x)
      ∧ ∀ d, Encodes [x.prefixByte, 0xA6, d] 2 (.andXd x d))
    ∧ (∀ q : Reg8, Encodes [0b10101#5 ++ q.code] 1 (.xorR q) ∧ (q.isHOrL = false → FallsBack (0b10101#5 ++ q.code)))
    ∧ Encodes [0xAE] 1 .xorMHl ∧ (∀ n, Encodes [0xEE, n] 1 (.xorN n)) ∧ FallsBack 0xEE
    ∧ (∀ x : Idx, Encodes [x.prefixByte, 0xAC] 2 (.xorXH x) ∧ Encodes [x.prefixByte, 0xAD] 2 (.xorXL x)
      ∧ ∀ d, Encodes [x.prefixByte, 0xAE, d] 2 (.xorXd x d))
    ∧ (∀ q : Reg8, Encodes [0b10110#5 ++ q.code] 1 (.orR q) ∧ (q.isHOrL = false → FallsBack (0b10110#5 ++ q.code)))
    ∧ Encodes [0xB6] 1 .orMHl ∧ (∀ n, Encodes [0xF6, n] 1 (.orN n)) ∧ FallsBack 0xF6
    ∧ (∀ x : Idx, Encodes [x.prefixByte, 0xB4] 2 (.orXH x) ∧ Encodes [x.prefixByte, 0xB5] 2 (.orXL x)
      ∧ ∀ d, Encodes [x.prefixByte, 0xB6, d] 2 (.orXd x d))
    ∧ (∀ q, WritesAF (.andR q) 4 (·.reg q) (fun s v => s.a &&& v) (fun s v => parityFlags (s.a &&& v) true false false))
    ∧ (WritesAF .andMHl 7 (fun s => s.readByte s.hl) (fun s v => s.a &&& v) (fun s v => parityFlags (s.a &&& v) true false false))
    ∧ (∀ n, WritesAF (.andN n) 7 (fun _ => n) (fun s v => s.a &&& v) (fun s v => parityFlags (s.a &&& v) true false false))
    ∧ (∀ x d, WritesAF (.andXd x d) 19 (fun s => s.readByte (s.ea x d)) (fun s v => s.a &&& v) (fun s v => parityFlags (s.a &&& v) true false false))
    ∧ (∀ x, WritesAF (.andXH x) 8 (·.xh x) (fun s v => s.a &&& v) (fun s v => parityFlags (s.a &&& v) true false false))
    ∧ (∀ x, WritesAF (.andXL x) 8 (·.xl x) (fun s v => s.a &&& v) (fun s v => parityFlags (s.a &&& v) true false false))
    ∧ (∀ q, WritesAF (.xorR q) 4 (·.reg q) (fun s v => s.a ^^^ v) (fun s v => parityFlags (s.a ^^^ v) false false false))
    ∧ (WritesAF .xorMHl 7 (fun s => s.readByte s.hl) (fun s v => s.a ^^^ v) (fun s v => parityFlags (s.a ^^^ v) false false false))
    ∧ (∀ n, WritesAF (.xorN n) 7 (fun _ => n) (fun s v => s.a ^^^ v) (fun s v => parityFlags (s.a ^^^ v) false false false))
    ∧ (∀ x d, WritesAF (.xorXd x d) 19 (fun s => s.readByte (s.ea x d)) (fun s v => s.a ^^^ v) (fun s v => parityFlags (s.a ^^^ v) false false false))
    ∧ (∀ x, WritesAF (.xorXH x) 8 (·.xh x) (fun s v => s.a ^^^ v) (fun s v => parityFlags (s.a ^^^ v) false false false))
    ∧ (∀ x, WritesAF (.xorXL x) 8 (·.xl x) (fun s v => s.a ^^^ v) (fun s v => parityFlags (s.a ^^^ v) false false false))
    ∧ (∀ q, WritesAF (.orR q) 4 (·.reg q) (fun s v => s.a ||| v) (fun s v => parityFlags (s.a ||| v) false false false))
    ∧ (WritesAF .orMHl 7 (fun s => s.readByte s.hl) (fun s v => s.a ||| v) (fun s v => parityFlags (s.a ||| v) false false false))
    ∧ (∀ n, WritesAF (.orN n) 7 (fun _ => n) (fun s v => s.a ||| v) (fun s v => parityFlags (s.a ||| v) false false false))
    ∧ (∀ x d, WritesAF (.orXd x d) 19 (fun s => s.readByte (s.ea x d)) (fun s v => s.a ||| v) (fun s v => parityFlags (s.a ||| v) false false false))
    ∧ (∀ x, WritesAF (.orXH x) 8 (·.xh x) (fun s v => s.a ||| v) (fun s v => parityFlags (s.a ||| v) false false false))
    ∧ (∀ x, WritesAF (.orXL x) 8 (·.xl x) (fun s v => s.a ||| v) (fun s v => parityFlags (s.a ||| v) false false false))

/-- INC and DEC of a register, XH, XL, (HL) and (X+d) (R161, R162, R258-R261): PV is the overflow into 0x80 or 0x7F, H the carry
or borrow of bit 3, C is kept. -/
def Obligations.IncrementAndDecrement : Prop :=
  let up : Byte → Byte → Byte := fun f v => flagByte ((v + 1).getLsbD 7) (v + 1 == 0) ((v + 1).getLsbD 5)
    (v.toNat % 16 == 15) ((v + 1).getLsbD 3) (v + 1 == 0x80) false (f.getLsbD 0)
  let down : Byte → Byte → Byte := fun f v => flagByte ((v - 1).getLsbD 7) (v - 1 == 0) ((v - 1).getLsbD 5)
    (v.toNat % 16 == 0) ((v - 1).getLsbD 3) (v - 1 == 0x7F) true (f.getLsbD 0)
  (∀ r : Reg8, Encodes [0b00#2 ++ r.code ++ 0b100#3] 1 (.incR r) ∧ Encodes [0b00#2 ++ r.code ++ 0b101#3] 1 (.decR r))
    ∧ Encodes [0x34] 1 .incMHl ∧ Encodes [0x35] 1 .decMHl
    ∧ (∀ x : Idx, Encodes [x.prefixByte, 0x24] 2 (.incXH x) ∧ Encodes [x.prefixByte, 0x2C] 2 (.incXL x)
      ∧ Encodes [x.prefixByte, 0x25] 2 (.decXH x) ∧ Encodes [x.prefixByte, 0x2D] 2 (.decXL x)
      ∧ ∀ d, Encodes [x.prefixByte, 0x34, d] 2 (.incXd x d) ∧ Encodes [x.prefixByte, 0x35, d] 2 (.decXd x d))
    ∧ (∀ r, WritesRegF (.incR r) 4 r (fun _ v => v + 1) (fun s v => up s.f v)
      ∧ WritesRegF (.decR r) 4 r (fun _ v => v - 1) (fun s v => down s.f v))
    ∧ StoresF .incMHl 11 (·.hl) (fun _ v => v + 1) (fun s v => up s.f v)
    ∧ StoresF .decMHl 11 (·.hl) (fun _ v => v - 1) (fun s v => down s.f v)
    ∧ (∀ x d, StoresF (.incXd x d) 23 (·.ea x d) (fun _ v => v + 1) (fun s v => up s.f v)
      ∧ StoresF (.decXd x d) 23 (·.ea x d) (fun _ v => v - 1) (fun s v => down s.f v))
    ∧ ∀ (s : State) (x : Idx),
      (∃ t, Runs (.incXH x) s t 8 [.idx x, .f] [] ∧ t.xh x = s.xh x + 1 ∧ t.xl x = s.xl x ∧ t.f = up s.f (s.xh x))
        ∧ (∃ t, Runs (.incXL x) s t 8 [.idx x, .f] [] ∧ t.xl x = s.xl x + 1 ∧ t.xh x = s.xh x ∧ t.f = up s.f (s.xl x))
        ∧ (∃ t, Runs (.decXH x) s t 8 [.idx x, .f] [] ∧ t.xh x = s.xh x - 1 ∧ t.xl x = s.xl x ∧ t.f = down s.f (s.xh x))
        ∧ ∃ t, Runs (.decXL x) s t 8 [.idx x, .f] [] ∧ t.xl x = s.xl x - 1 ∧ t.xh x = s.xh x ∧ t.f = down s.f (s.xl x)

/-- DAA (R170, R262): the correction by the flags and nibbles, N kept, C set and never cleared, PV the parity. -/
def Obligations.DecimalAdjust : Prop :=
  Encodes [0x27] 1 .daa
    ∧ ∀ s : State, ∀ k : Byte,
      k = (if s.f.getLsbD 4 = true ∨ 9 < s.a.toNat % 16 then 0x06 else 0x00)
          + (if s.f.getLsbD 0 = true ∨ 0x99 < s.a.toNat then 0x60 else 0x00) →
      ∃ t, Runs .daa s t 4 [.reg .a, .f] [] ∧ t.a = (if s.f.getLsbD 1 = true then s.a - k else s.a + k)
        ∧ t.f = parityFlags t.a (if s.f.getLsbD 1 = true then halfBorrow s.a k false else halfCarry s.a k false)
          (s.f.getLsbD 1) (s.f.getLsbD 0 || decide (0x99 < s.a.toNat))

/-- CPL (R263), NEG with its aliases (R264), CCF (R265), SCF (R266), and RLCA, RLA, RRCA and RRA (R167, R272-R275), where C takes the
bit moved out and S, Z and PV are kept. -/
def Obligations.AccumulatorInstructions : Prop :=
  Encodes [0x2F] 1 .cpl ∧ Encodes [0x3F] 1 .ccf ∧ Encodes [0x37] 1 .scf
    ∧ (∀ op ∈ [(0x44 : Byte), 0x4C, 0x54, 0x5C, 0x64, 0x6C, 0x74, 0x7C], Encodes [0xED, op] 2 .neg)
    ∧ WritesAF .cpl 4 (·.a) (fun _ v => ~~~v) (fun s v =>
      flagByte (s.f.getLsbD 7) (s.f.getLsbD 6) ((~~~v).getLsbD 5) true ((~~~v).getLsbD 3) (s.f.getLsbD 2) true (s.f.getLsbD 0))
    ∧ WritesAF .neg 8 (·.a) (fun _ v => -v) (fun _ v => subFlags 0 v false)
    ∧ WritesF .ccf 4 (fun s => keepSZP s.f s.a (s.f.getLsbD 0) false (!s.f.getLsbD 0))
    ∧ WritesF .scf 4 (fun s => keepSZP s.f s.a false false true)
    ∧ Encodes [0x07] 1 .rlca ∧ Encodes [0x17] 1 .rla ∧ Encodes [0x0F] 1 .rrca ∧ Encodes [0x1F] 1 .rra
    ∧ WritesAF .rlca 4 (·.a) (fun _ v => (shifted .rlc v false).1)
      (fun s v => keepSZP s.f (shifted .rlc v false).1 false false (v.getLsbD 7))
    ∧ WritesAF .rla 4 (·.a) (fun s v => (shifted .rl v (s.f.getLsbD 0)).1)
      (fun s v => keepSZP s.f (shifted .rl v (s.f.getLsbD 0)).1 false false (v.getLsbD 7))
    ∧ WritesAF .rrca 4 (·.a) (fun _ v => (shifted .rrc v false).1)
      (fun s v => keepSZP s.f (shifted .rrc v false).1 false false (v.getLsbD 0))
    ∧ WritesAF .rra 4 (·.a) (fun s v => (shifted .rr v (s.f.getLsbD 0)).1)
      (fun s v => keepSZP s.f (shifted .rr v (s.f.getLsbD 0)).1 false false (v.getLsbD 0))

/-! ## 16-bit arithmetic -/

/-- ADD HL,rp and ADD X,rp, where rp = HL under a prefix is X itself (R163, R267): H is the carry from bit 11, C from bit 15, F5
and F3 are bits 13 and 11 of the sum, S, Z and PV are kept. INC and
DEC of a pair or of X wrap modulo 2^16 and set no flag (R270, R271). -/
def Obligations.AddAndCount16 : Prop :=
  let flags : Byte → Word → Word → Byte := fun f a b => keepSZP f (hiByte (a + b))
    (decide (0xFFF < a.toNat % 4096 + b.toNat % 4096)) false (decide (0xFFFF < a.toNat + b.toNat))
  (∀ rp : RegPair, Encodes [0b00#2 ++ rp.code ++ 0b1001#4] 1 (.addHlRp rp)
      ∧ ∀ x : Idx, Encodes [x.prefixByte, 0b00#2 ++ rp.code ++ 0b1001#4] 2 (.addXRp x rp))
    ∧ (∀ (s : State) (rp : RegPair),
      (∃ t, Runs (.addHlRp rp) s t 11 [.reg .h, .reg .l, .f] [] ∧ t.hl = s.hl + s.pair rp ∧ t.f = flags s.f s.hl (s.pair rp))
        ∧ ∀ x : Idx, ∀ v : Word, v = (if rp = .hl then s.idx x else s.pair rp) →
          ∃ t, Runs (.addXRp x rp) s t 15 [.idx x, .f] [] ∧ t.idx x = s.idx x + v ∧ t.f = flags s.f (s.idx x) v)
    ∧ (∀ rp : RegPair, Encodes [0b00#2 ++ rp.code ++ 0b0011#4] 1 (.incRp rp) ∧ Encodes [0b00#2 ++ rp.code ++ 0b1011#4] 1 (.decRp rp))
    ∧ (∀ x : Idx, Encodes [x.prefixByte, 0x23] 2 (.incX x) ∧ Encodes [x.prefixByte, 0x2B] 2 (.decX x))
    ∧ ∀ s : State,
      (∀ rp, (∃ t, Runs (.incRp rp) s t 6 (pairParts rp) [] ∧ (t.pair rp).toNat = ((s.pair rp).toNat + 1) % 65536)
        ∧ ∃ t, Runs (.decRp rp) s t 6 (pairParts rp) [] ∧ (t.pair rp).toNat = ((s.pair rp).toNat + 65535) % 65536)
        ∧ ∀ x, (∃ t, Runs (.incX x) s t 10 [.idx x] [] ∧ (t.idx x).toNat = ((s.idx x).toNat + 1) % 65536)
          ∧ ∃ t, Runs (.decX x) s t 10 [.idx x] [] ∧ (t.idx x).toNat = ((s.idx x).toNat + 65535) % 65536

/-- ADC HL,rp (R164, R268) and SBC HL,rp (R165, R269): H from bit 11, PV the 16-bit signed overflow, Z of all 16 bits, C from bit
15, N 0 or 1. -/
def Obligations.AddSubtractWithCarry16 : Prop :=
  (∀ rp : RegPair, Encodes [0xED, 0b01#2 ++ rp.code ++ 0b1010#4] 2 (.adcHlRp rp)
      ∧ Encodes [0xED, 0b01#2 ++ rp.code ++ 0b0010#4] 2 (.sbcHlRp rp))
    ∧ FallsBack 0xED
    ∧ ∀ (s : State) (rp : RegPair) (a b : Word) (c : Bool), a = s.hl → b = s.pair rp → c = s.f.getLsbD 0 →
      (∃ t, Runs (.adcHlRp rp) s t 15 [.reg .h, .reg .l, .f] [] ∧ t.hl = a + b + BitVec.ofNat 16 c.toNat
        ∧ t.f = flagByte (t.hl.getLsbD 15) (t.hl == 0) (t.hl.getLsbD 13)
          (decide (0xFFF < a.toNat % 4096 + b.toNat % 4096 + c.toNat)) (t.hl.getLsbD 11)
          (decide (a.toInt + b.toInt + c.toNat < -32768 ∨ 32767 < a.toInt + b.toInt + c.toNat)) false
          (decide (0xFFFF < a.toNat + b.toNat + c.toNat)))
        ∧ ∃ t, Runs (.sbcHlRp rp) s t 15 [.reg .h, .reg .l, .f] [] ∧ t.hl = a - b - BitVec.ofNat 16 c.toNat
          ∧ t.f = flagByte (t.hl.getLsbD 15) (t.hl == 0) (t.hl.getLsbD 13)
            (decide (a.toNat % 4096 < b.toNat % 4096 + c.toNat)) (t.hl.getLsbD 11)
            (decide (a.toInt - b.toInt - c.toNat < -32768 ∨ 32767 < a.toInt - b.toInt - c.toNat)) true
            (decide (a.toNat < b.toNat + c.toNat))

/-! ## Rotates, shifts and bits -/

/-- The eight rotates and shifts of a register and of (HL), whose byte is written back (R166, R300-R307): the result as bits side
by side, C the bit moved out, PV the parity, H = N = 0. -/
def Obligations.RotateRegisterOrMemory : Prop :=
  (∀ q, WritesRegF (.rlcR q) 8 q (fun s v => (shifted .rlc v (s.f.getLsbD 0)).1)
      (fun s v => parityFlags (shifted .rlc v (s.f.getLsbD 0)).1 false false (shifted .rlc v (s.f.getLsbD 0)).2))
    ∧ (∀ q, WritesRegF (.rrcR q) 8 q (fun s v => (shifted .rrc v (s.f.getLsbD 0)).1)
      (fun s v => parityFlags (shifted .rrc v (s.f.getLsbD 0)).1 false false (shifted .rrc v (s.f.getLsbD 0)).2))
    ∧ (∀ q, WritesRegF (.rlR q) 8 q (fun s v => (shifted .rl v (s.f.getLsbD 0)).1)
      (fun s v => parityFlags (shifted .rl v (s.f.getLsbD 0)).1 false false (shifted .rl v (s.f.getLsbD 0)).2))
    ∧ (∀ q, WritesRegF (.rrR q) 8 q (fun s v => (shifted .rr v (s.f.getLsbD 0)).1)
      (fun s v => parityFlags (shifted .rr v (s.f.getLsbD 0)).1 false false (shifted .rr v (s.f.getLsbD 0)).2))
    ∧ (∀ q, WritesRegF (.slaR q) 8 q (fun s v => (shifted .sla v (s.f.getLsbD 0)).1)
      (fun s v => parityFlags (shifted .sla v (s.f.getLsbD 0)).1 false false (shifted .sla v (s.f.getLsbD 0)).2))
    ∧ (∀ q, WritesRegF (.sraR q) 8 q (fun s v => (shifted .sra v (s.f.getLsbD 0)).1)
      (fun s v => parityFlags (shifted .sra v (s.f.getLsbD 0)).1 false false (shifted .sra v (s.f.getLsbD 0)).2))
    ∧ (∀ q, WritesRegF (.sllR q) 8 q (fun s v => (shifted .sll v (s.f.getLsbD 0)).1)
      (fun s v => parityFlags (shifted .sll v (s.f.getLsbD 0)).1 false false (shifted .sll v (s.f.getLsbD 0)).2))
    ∧ (∀ q, WritesRegF (.srlR q) 8 q (fun s v => (shifted .srl v (s.f.getLsbD 0)).1)
      (fun s v => parityFlags (shifted .srl v (s.f.getLsbD 0)).1 false false (shifted .srl v (s.f.getLsbD 0)).2))
    ∧ StoresF .rlcMHl 15 (·.hl) (fun s v => (shifted .rlc v (s.f.getLsbD 0)).1)
      (fun s v => parityFlags (shifted .rlc v (s.f.getLsbD 0)).1 false false (shifted .rlc v (s.f.getLsbD 0)).2)
    ∧ StoresF .rrcMHl 15 (·.hl) (fun s v => (shifted .rrc v (s.f.getLsbD 0)).1)
      (fun s v => parityFlags (shifted .rrc v (s.f.getLsbD 0)).1 false false (shifted .rrc v (s.f.getLsbD 0)).2)
    ∧ StoresF .rlMHl 15 (·.hl) (fun s v => (shifted .rl v (s.f.getLsbD 0)).1)
      (fun s v => parityFlags (shifted .rl v (s.f.getLsbD 0)).1 false false (shifted .rl v (s.f.getLsbD 0)).2)
    ∧ StoresF .rrMHl 15 (·.hl) (fun s v => (shifted .rr v (s.f.getLsbD 0)).1)
      (fun s v => parityFlags (shifted .rr v (s.f.getLsbD 0)).1 false false (shifted .rr v (s.f.getLsbD 0)).2)
    ∧ StoresF .slaMHl 15 (·.hl) (fun s v => (shifted .sla v (s.f.getLsbD 0)).1)
      (fun s v => parityFlags (shifted .sla v (s.f.getLsbD 0)).1 false false (shifted .sla v (s.f.getLsbD 0)).2)
    ∧ StoresF .sraMHl 15 (·.hl) (fun s v => (shifted .sra v (s.f.getLsbD 0)).1)
      (fun s v => parityFlags (shifted .sra v (s.f.getLsbD 0)).1 false false (shifted .sra v (s.f.getLsbD 0)).2)
    ∧ StoresF .sllMHl 15 (·.hl) (fun s v => (shifted .sll v (s.f.getLsbD 0)).1)
      (fun s v => parityFlags (shifted .sll v (s.f.getLsbD 0)).1 false false (shifted .sll v (s.f.getLsbD 0)).2)
    ∧ StoresF .srlMHl 15 (·.hl) (fun s v => (shifted .srl v (s.f.getLsbD 0)).1)
      (fun s v => parityFlags (shifted .srl v (s.f.getLsbD 0)).1 false false (shifted .srl v (s.f.getLsbD 0)).2)

/-- The eight rotates and shifts of (X+d), with and without the copy to a plain register (R166, R300-R307, R312). -/
def Obligations.RotateIndexed : Prop :=
  (∀ x d, StoresAndCopies (.rlcXd x d) 23 (·.ea x d) none true (fun s v => (shifted .rlc v (s.f.getLsbD 0)).1)
      (fun s v => parityFlags (shifted .rlc v (s.f.getLsbD 0)).1 false false (shifted .rlc v (s.f.getLsbD 0)).2))
    ∧ (∀ x d q, StoresAndCopies (.rlcXdR x d q) 23 (·.ea x d) (some q) true (fun s v => (shifted .rlc v (s.f.getLsbD 0)).1)
      (fun s v => parityFlags (shifted .rlc v (s.f.getLsbD 0)).1 false false (shifted .rlc v (s.f.getLsbD 0)).2))
    ∧ (∀ x d, StoresAndCopies (.rrcXd x d) 23 (·.ea x d) none true (fun s v => (shifted .rrc v (s.f.getLsbD 0)).1)
      (fun s v => parityFlags (shifted .rrc v (s.f.getLsbD 0)).1 false false (shifted .rrc v (s.f.getLsbD 0)).2))
    ∧ (∀ x d q, StoresAndCopies (.rrcXdR x d q) 23 (·.ea x d) (some q) true (fun s v => (shifted .rrc v (s.f.getLsbD 0)).1)
      (fun s v => parityFlags (shifted .rrc v (s.f.getLsbD 0)).1 false false (shifted .rrc v (s.f.getLsbD 0)).2))
    ∧ (∀ x d, StoresAndCopies (.rlXd x d) 23 (·.ea x d) none true (fun s v => (shifted .rl v (s.f.getLsbD 0)).1)
      (fun s v => parityFlags (shifted .rl v (s.f.getLsbD 0)).1 false false (shifted .rl v (s.f.getLsbD 0)).2))
    ∧ (∀ x d q, StoresAndCopies (.rlXdR x d q) 23 (·.ea x d) (some q) true (fun s v => (shifted .rl v (s.f.getLsbD 0)).1)
      (fun s v => parityFlags (shifted .rl v (s.f.getLsbD 0)).1 false false (shifted .rl v (s.f.getLsbD 0)).2))
    ∧ (∀ x d, StoresAndCopies (.rrXd x d) 23 (·.ea x d) none true (fun s v => (shifted .rr v (s.f.getLsbD 0)).1)
      (fun s v => parityFlags (shifted .rr v (s.f.getLsbD 0)).1 false false (shifted .rr v (s.f.getLsbD 0)).2))
    ∧ (∀ x d q, StoresAndCopies (.rrXdR x d q) 23 (·.ea x d) (some q) true (fun s v => (shifted .rr v (s.f.getLsbD 0)).1)
      (fun s v => parityFlags (shifted .rr v (s.f.getLsbD 0)).1 false false (shifted .rr v (s.f.getLsbD 0)).2))
    ∧ (∀ x d, StoresAndCopies (.slaXd x d) 23 (·.ea x d) none true (fun s v => (shifted .sla v (s.f.getLsbD 0)).1)
      (fun s v => parityFlags (shifted .sla v (s.f.getLsbD 0)).1 false false (shifted .sla v (s.f.getLsbD 0)).2))
    ∧ (∀ x d q, StoresAndCopies (.slaXdR x d q) 23 (·.ea x d) (some q) true (fun s v => (shifted .sla v (s.f.getLsbD 0)).1)
      (fun s v => parityFlags (shifted .sla v (s.f.getLsbD 0)).1 false false (shifted .sla v (s.f.getLsbD 0)).2))
    ∧ (∀ x d, StoresAndCopies (.sraXd x d) 23 (·.ea x d) none true (fun s v => (shifted .sra v (s.f.getLsbD 0)).1)
      (fun s v => parityFlags (shifted .sra v (s.f.getLsbD 0)).1 false false (shifted .sra v (s.f.getLsbD 0)).2))
    ∧ (∀ x d q, StoresAndCopies (.sraXdR x d q) 23 (·.ea x d) (some q) true (fun s v => (shifted .sra v (s.f.getLsbD 0)).1)
      (fun s v => parityFlags (shifted .sra v (s.f.getLsbD 0)).1 false false (shifted .sra v (s.f.getLsbD 0)).2))
    ∧ (∀ x d, StoresAndCopies (.sllXd x d) 23 (·.ea x d) none true (fun s v => (shifted .sll v (s.f.getLsbD 0)).1)
      (fun s v => parityFlags (shifted .sll v (s.f.getLsbD 0)).1 false false (shifted .sll v (s.f.getLsbD 0)).2))
    ∧ (∀ x d q, StoresAndCopies (.sllXdR x d q) 23 (·.ea x d) (some q) true (fun s v => (shifted .sll v (s.f.getLsbD 0)).1)
      (fun s v => parityFlags (shifted .sll v (s.f.getLsbD 0)).1 false false (shifted .sll v (s.f.getLsbD 0)).2))
    ∧ (∀ x d, StoresAndCopies (.srlXd x d) 23 (·.ea x d) none true (fun s v => (shifted .srl v (s.f.getLsbD 0)).1)
      (fun s v => parityFlags (shifted .srl v (s.f.getLsbD 0)).1 false false (shifted .srl v (s.f.getLsbD 0)).2))
    ∧ (∀ x d q, StoresAndCopies (.srlXdR x d q) 23 (·.ea x d) (some q) true (fun s v => (shifted .srl v (s.f.getLsbD 0)).1)
      (fun s v => parityFlags (shifted .srl v (s.f.getLsbD 0)).1 false false (shifted .srl v (s.f.getLsbD 0)).2))

/-- BIT (R168, R308, R309): Z and PV are NOT of the tested bit, S a set bit 7, C kept; F5 and F3 are those of the register, of the
high byte of the effective address, or after BIT b,(HL) of the free value of log entry 4; nothing but F is written, and the draw
is counted. -/
def Obligations.BitTest : Prop :=
  (∀ b q, WritesF (.bitR b q) 8 (fun s => bitFlags b (s.reg q) (s.reg q) s.f))
    ∧ (∀ b, ∀ s : State, ∃ t, Runs (.bitMHl b) s t 12 [.f, .draws] [] ∧ t.draws = s.draws + 1
      ∧ t.f = bitFlags b (s.readByte s.hl) (Config.bitHlUndoc s.draws) s.f)
    ∧ (∀ x d b, WritesF (.bitXd x d b) 20 (fun s => bitFlags b (s.readByte (s.ea x d)) (hiByte (s.ea x d)) s.f))
    ∧ ∀ x d b z, WritesF (.bitXdAlias x d b z) 20 (fun s => bitFlags b (s.readByte (s.ea x d)) (hiByte (s.ea x d)) s.f)

/-- SET and RES of a register, of (HL) and of (X+d), the last with and without the copy (R169, R310-R312): bit b of the result is 1
or 0, every other bit is kept, and no flag changes. -/
def Obligations.SetAndResetBits : Prop :=
  ∃ on off : Index8 → Byte → Byte,
    (∀ b v, ∀ k < 8, (on b v).getLsbD k = (v.getLsbD k || k == b.val) ∧ (off b v).getLsbD k = (v.getLsbD k && k != b.val))
      ∧ (∀ b q, ∀ s : State,
        (∃ t, Runs (.setR b q) s t 8 [.reg q] [] ∧ t.reg q = on b (s.reg q))
          ∧ ∃ t, Runs (.resR b q) s t 8 [.reg q] [] ∧ t.reg q = off b (s.reg q))
      ∧ (∀ b, ∀ s : State,
        (∃ t, Runs (.setMHl b) s t 15 [] [s.hl] ∧ Holds s t s.hl (on b (s.readByte s.hl)))
          ∧ ∃ t, Runs (.resMHl b) s t 15 [] [s.hl] ∧ Holds s t s.hl (off b (s.readByte s.hl)))
      ∧ ∀ x d b,
        StoresAndCopies (.setXd x d b) 23 (·.ea x d) none false (fun _ v => on b v) (fun s _ => s.f)
          ∧ StoresAndCopies (.resXd x d b) 23 (·.ea x d) none false (fun _ v => off b v) (fun s _ => s.f)
          ∧ ∀ q, StoresAndCopies (.setXdR x d b q) 23 (·.ea x d) (some q) false (fun _ v => on b v) (fun s _ => s.f)
            ∧ StoresAndCopies (.resXdR x d b q) 23 (·.ea x d) (some q) false (fun _ v => off b v) (fun s _ => s.f)

/-- The indexed bit space (R120, R312). Every final byte decodes, to a row that does what the fields of the byte say. The fields
are carried by the row indexedBitSpace, which no bytes decode to: its meaning is the model's choice, log entry 11. BIT for
x = 1, whatever z; else the result goes to memory, and to the plain register r[z] when z is not 6. -/
def Obligations.IndexedBitSpace : Prop :=
  (∀ (x : Idx) (d op : Byte) (rest : List Byte), ∃ i, decode (x.prefixByte :: 0xCB :: d :: op :: rest) = .ok ⟨i, 4, 2⟩
      ∧ ∀ s : State, exec i s = exec (.indexedBitSpace x d op) s)
    ∧ ∀ (s : State) (x : Idx) (d : Byte) (y : Index8) (z : Option Reg8) (zc : BitVec 3) (v : Byte),
    zc = z.elim 0b110#3 Reg8.code → v = s.readByte (s.ea x d) →
    (∃ t, Runs (.indexedBitSpace x d (0b01#2 ++ y.code ++ zc)) s t 20 [.f] []
        ∧ t.f = bitFlags y v (hiByte (s.ea x d)) s.f)
      ∧ (∃ t, Runs (.indexedBitSpace x d (0b10#2 ++ y.code ++ zc)) s t 23 (z.toList.map Part.reg) [s.ea x d]
        ∧ Holds s t (s.ea x d) (v &&& ~~~(1#8 <<< y.val)) ∧ ∀ r, z = some r → t.reg r = v &&& ~~~(1#8 <<< y.val))
      ∧ (∃ t, Runs (.indexedBitSpace x d (0b11#2 ++ y.code ++ zc)) s t 23 (z.toList.map Part.reg) [s.ea x d]
        ∧ Holds s t (s.ea x d) (v ||| 1#8 <<< y.val) ∧ ∀ r, z = some r → t.reg r = v ||| 1#8 <<< y.val)
      ∧ ∃ t, Runs (.indexedBitSpace x d (0b00#2 ++ y.code ++ zc)) s t 23 (z.toList.map Part.reg ++ [.f]) [s.ea x d]
        ∧ Holds s t (s.ea x d) (shifted (RotOp.ofCode y.code) v (s.f.getLsbD 0)).1
        ∧ (∀ r, z = some r → t.reg r = (shifted (RotOp.ofCode y.code) v (s.f.getLsbD 0)).1)
        ∧ t.f = parityFlags (shifted (RotOp.ofCode y.code) v (s.f.getLsbD 0)).1 false false
          (shifted (RotOp.ofCode y.code) v (s.f.getLsbD 0)).2

/-- RLD (R316) and RRD (R317): the nibbles of A and of the byte at HL, C kept, PV the parity of the new A; RRD after RLD restores both A
and memory. -/
def Obligations.NibbleRotates : Prop :=
  Encodes [0xED, 0x6F] 2 .rld ∧ Encodes [0xED, 0x67] 2 .rrd
    ∧ (∀ s : State, ∀ t0 : Byte, t0 = s.readByte s.hl →
      (∃ t, Runs .rld s t 18 [.reg .a, .f] [s.hl] ∧ t.a = s.a.extractLsb' 4 4 ++ t0.extractLsb' 4 4
        ∧ Holds s t s.hl (t0.extractLsb' 0 4 ++ s.a.extractLsb' 0 4)
        ∧ t.f = parityFlags t.a false false (s.f.getLsbD 0))
        ∧ ∃ t, Runs .rrd s t 18 [.reg .a, .f] [s.hl] ∧ t.a = s.a.extractLsb' 4 4 ++ t0.extractLsb' 0 4
          ∧ Holds s t s.hl (s.a.extractLsb' 0 4 ++ t0.extractLsb' 4 4)
          ∧ t.f = parityFlags t.a false false (s.f.getLsbD 0))
    ∧ ∀ s t u : State, s.mem.wf = true → exec .rld s = .next t → exec .rrd t = .next u →
      u.a = s.a ∧ ∀ a : Word, u.readByte a = s.readByte a

/-! ## Control transfer -/

/-- The jumps (R340-R344) and DJNZ (R345), with `e` counted from the address after the instruction, where the fetch left PC; the
conditions read the bits of F as R108 says. -/
def Obligations.Jumps : Prop :=
  (∀ lo hi : Byte, Encodes [0xC3, lo, hi] 1 (.jpNn (mkWord hi lo))
      ∧ ∀ cc : Cond, Encodes [0b11#2 ++ cc.code ++ 0b010#3, lo, hi] 1 (.jpCcNn cc (mkWord hi lo)))
    ∧ (∀ e : Byte, Encodes [0x18, e] 1 (.jr e) ∧ Encodes [0x20, e] 1 (.jrCc .nz e) ∧ Encodes [0x28, e] 1 (.jrCc .z e)
      ∧ Encodes [0x30, e] 1 (.jrCc .nc e) ∧ Encodes [0x38, e] 1 (.jrCc .c e) ∧ Encodes [0x10, e] 1 (.djnz e))
    ∧ Encodes [0xE9] 1 .jpHl ∧ (∀ x : Idx, Encodes [x.prefixByte, 0xE9] 2 (.jpX x))
    ∧ (∀ s : State, (s.cond .nz = !s.f.getLsbD 6) ∧ s.cond .z = s.f.getLsbD 6 ∧ (s.cond .nc = !s.f.getLsbD 0)
    ∧ s.cond .c = s.f.getLsbD 0 ∧ (s.cond .po = !s.f.getLsbD 2) ∧ s.cond .pe = s.f.getLsbD 2
    ∧ (s.cond .p = !s.f.getLsbD 7) ∧ s.cond .m = s.f.getLsbD 7)
    ∧ ∀ s : State,
      (∀ nn, ∃ t, Runs (.jpNn nn) s t 10 [.pc] [] ∧ t.pc = nn)
        ∧ (∀ cc nn, ∃ t, Runs (.jpCcNn cc nn) s t 10 [.pc] [] ∧ t.pc = if s.cond cc then nn else s.pc)
        ∧ (∀ e, ∃ t, Runs (.jr e) s t 12 [.pc] [] ∧ t.pc = s.pc + BitVec.ofInt 16 e.toInt)
        ∧ (∀ cc e, ∃ t, Runs (.jrCc cc e) s t (if s.cond cc then 12 else 7) [.pc] []
          ∧ t.pc = if s.cond cc then s.pc + BitVec.ofInt 16 e.toInt else s.pc)
        ∧ (∃ t, Runs .jpHl s t 4 [.pc] [] ∧ t.pc = s.hl)
        ∧ (∀ x, ∃ t, Runs (.jpX x) s t 8 [.pc] [] ∧ t.pc = s.idx x)
        ∧ ∀ e, ∃ t, Runs (.djnz e) s t (if s.reg .b = 1 then 8 else 13) [.reg .b, .pc] []
          ∧ t.reg .b = s.reg .b - 1 ∧ t.pc = if s.reg .b = 1 then s.pc else s.pc + BitVec.ofInt 16 e.toInt

/-- CALL nn (R346), CALL cc,nn (R347) and RST p (R350): PC, the address after the instruction, goes to the two bytes under SP;
a call not taken writes nothing. -/
def Obligations.CallsAndRestarts : Prop :=
  (∀ lo hi : Byte, Encodes [0xCD, lo, hi] 1 (.callNn (mkWord hi lo))
      ∧ ∀ cc : Cond, Encodes [0b11#2 ++ cc.code ++ 0b100#3, lo, hi] 1 (.callCcNn cc (mkWord hi lo)))
    ∧ (∀ y : Index8, Encodes [0b11#2 ++ y.code ++ 0b111#3] 1 (.rst y))
    ∧ ∀ s : State,
      (∀ nn, ∃ t, Runs (.callNn nn) s t 17 [.sp, .pc] [s.sp - 2, s.sp - 1] ∧ t.sp = s.sp - 2 ∧ t.pc = nn
        ∧ Holds s t (s.sp - 2) (loByte s.pc) ∧ Holds s t (s.sp - 1) (hiByte s.pc))
        ∧ (∀ cc nn, s.cond cc = true →
          ∃ t, Runs (.callCcNn cc nn) s t 17 [.sp, .pc] [s.sp - 2, s.sp - 1] ∧ t.sp = s.sp - 2 ∧ t.pc = nn
            ∧ Holds s t (s.sp - 2) (loByte s.pc) ∧ Holds s t (s.sp - 1) (hiByte s.pc))
        ∧ (∀ cc nn, s.cond cc = false → ∃ t, Runs (.callCcNn cc nn) s t 10 [] [])
        ∧ ∀ y, ∃ t, Runs (.rst y) s t 11 [.sp, .pc] [s.sp - 2, s.sp - 1] ∧ t.sp = s.sp - 2 ∧ t.pc.toNat = y.val * 8
          ∧ Holds s t (s.sp - 2) (loByte s.pc) ∧ Holds s t (s.sp - 1) (hiByte s.pc)

/-- RET (R348), RET cc (R349), RETN (R399) and RETI (R400, C3): PC is the word at SP, SP moves by 2; the last two copy IFF2 into
IFF1; a return not taken changes nothing. -/
def Obligations.Returns : Prop :=
  Encodes [0xC9] 1 .ret ∧ (∀ cc : Cond, Encodes [0b11#2 ++ cc.code ++ 0b000#3] 1 (.retCc cc)) ∧ Encodes [0xED, 0x4D] 2 .reti
    ∧ (∀ op ∈ [(0x45 : Byte), 0x55, 0x5D, 0x65, 0x6D, 0x75, 0x7D], Encodes [0xED, op] 2 .retn)
    ∧ ∀ s : State, ∀ ra : Word, ra = mkWord (s.readByte (s.sp + 1)) (s.readByte s.sp) →
      (∃ t, Runs .ret s t 10 [.sp, .pc] [] ∧ t.pc = ra ∧ t.sp = s.sp + 2)
        ∧ (∀ cc, s.cond cc = true → ∃ t, Runs (.retCc cc) s t 11 [.sp, .pc] [] ∧ t.pc = ra ∧ t.sp = s.sp + 2)
        ∧ (∀ cc, s.cond cc = false → ∃ t, Runs (.retCc cc) s t 5 [] [])
        ∧ (∃ t, Runs .retn s t 14 [.sp, .pc, .iff1] [] ∧ t.pc = ra ∧ t.sp = s.sp + 2 ∧ t.iff1 = s.iff2)
        ∧ ∃ t, Runs .reti s t 14 [.sp, .pc, .iff1] [] ∧ t.pc = ra ∧ t.sp = s.sp + 2 ∧ t.iff1 = s.iff2

/-! ## Block instructions -/

/-- LDI, LDIR, LDD and LDDR (R171, R370-R373, R402): one byte a step; PV tells whether BC is still non-zero, F5 and F3 come from
`v + A`; a repeating form rewinds PC by 2 and costs 21 while BC is not 0. -/
def Obligations.BlockTransfer : Prop :=
  Encodes [0xED, 0xA0] 2 .ldi ∧ Encodes [0xED, 0xB0] 2 .ldir ∧ Encodes [0xED, 0xA8] 2 .ldd ∧ Encodes [0xED, 0xB8] 2 .lddr
    ∧ ∀ (s : State) (i : Instr) (δ : Word) (repeats : Bool),
      (i, δ, repeats) ∈ [(Instr.ldi, (1 : Word), false), (.ldir, 1, true), (.ldd, -1, false), (.lddr, -1, true)] →
      ∃ t, Runs i s t (if repeats = true ∧ s.bc ≠ 1 then 21 else 16)
          [.reg .b, .reg .c, .reg .d, .reg .e, .reg .h, .reg .l, .f, .pc] [s.de]
        ∧ Holds s t s.de (s.readByte s.hl) ∧ t.hl = s.hl + δ ∧ t.de = s.de + δ ∧ t.bc = s.bc - 1
        ∧ t.pc = (if repeats = true ∧ s.bc ≠ 1 then s.pc - 2 else s.pc)
        ∧ t.f = flagByte (s.f.getLsbD 7) (s.f.getLsbD 6) ((s.readByte s.hl + s.a).getLsbD 1) false
          ((s.readByte s.hl + s.a).getLsbD 3) (s.bc != 1) false (s.f.getLsbD 0)

/-- CPI, CPIR, CPD and CPDR (R172, R374-R377, R402): A is compared with the byte at HL; F5 and F3 come from `A - v - H`; a repeating
form goes on while BC is not 0 and the byte did not match. -/
def Obligations.BlockCompare : Prop :=
  Encodes [0xED, 0xA1] 2 .cpi ∧ Encodes [0xED, 0xB1] 2 .cpir ∧ Encodes [0xED, 0xA9] 2 .cpd ∧ Encodes [0xED, 0xB9] 2 .cpdr
    ∧ ∀ (s : State) (i : Instr) (δ : Word) (repeats : Bool) (v n : Byte),
      (i, δ, repeats) ∈ [(Instr.cpi, (1 : Word), false), (.cpir, 1, true), (.cpd, -1, false), (.cpdr, -1, true)] →
      v = s.readByte s.hl → n = s.a - v - (if halfBorrow s.a v false then 1 else 0) →
      ∃ t, Runs i s t (if repeats = true ∧ s.bc ≠ 1 ∧ s.a ≠ v then 21 else 16) [.reg .b, .reg .c, .reg .h, .reg .l, .f, .pc] []
        ∧ t.hl = s.hl + δ ∧ t.bc = s.bc - 1
        ∧ t.pc = (if repeats = true ∧ s.bc ≠ 1 ∧ s.a ≠ v then s.pc - 2 else s.pc)
        ∧ t.f = flagByte ((s.a - v).getLsbD 7) (s.a == v) (n.getLsbD 1) (halfBorrow s.a v false) (n.getLsbD 3) (s.bc != 1) true
          (s.f.getLsbD 0)

/-- INI, INIR, IND and INDR (R173, R381-R384, R402): the byte read from port BC goes to HL, B counts down; S, Z, F5 and F3 are those
of the new B, N is bit 7 of the byte, H and C tell whether k > 255, PV is the parity of `(k & 7) ^ B`. The byte is the port
device's answer, a draw (log entry 3). -/
def Obligations.BlockInput : Prop :=
  Encodes [0xED, 0xA2] 2 .ini ∧ Encodes [0xED, 0xB2] 2 .inir ∧ Encodes [0xED, 0xAA] 2 .ind ∧ Encodes [0xED, 0xBA] 2 .indr
    ∧ ∀ (s : State) (i : Instr) (δ : Word) (γ : Byte) (repeats : Bool) (v b : Byte) (k : Nat),
      (i, δ, γ, repeats) ∈ [(Instr.ini, (1 : Word), (1 : Byte), false), (.inir, 1, 1, true), (.ind, -1, -1, false),
        (.indr, -1, -1, true)] →
      v = s.portRead s.bc → b = s.reg .b - 1 → k = v.toNat + (s.reg .c + γ).toNat →
      ∃ t, Runs i s t (if repeats = true ∧ b ≠ 0 then 21 else 16) [.reg .b, .reg .h, .reg .l, .f, .pc, .draws] [s.hl]
        ∧ Holds s t s.hl v ∧ t.draws = s.draws + 1 ∧ t.hl = s.hl + δ ∧ t.reg .b = b
        ∧ t.pc = (if repeats = true ∧ b ≠ 0 then s.pc - 2 else s.pc)
        ∧ t.f = flagByte (b.getLsbD 7) (b == 0) (b.getLsbD 5) (decide (255 < k)) (b.getLsbD 3)
          (evenOnes (BitVec.ofNat 8 (k % 8) ^^^ b)) (v.getLsbD 7) (decide (255 < k))

/-- OUTI, OTIR, OUTD and OTDR (R173, R388-R391, R402): the byte at HL goes to port BC with B already counted down; k adds L after
the step of HL; the device records the write. -/
def Obligations.BlockOutput : Prop :=
  Encodes [0xED, 0xA3] 2 .outi ∧ Encodes [0xED, 0xB3] 2 .otir ∧ Encodes [0xED, 0xAB] 2 .outd ∧ Encodes [0xED, 0xBB] 2 .otdr
    ∧ ∀ (s : State) (i : Instr) (δ : Word) (repeats : Bool) (v b : Byte) (k : Nat),
      (i, δ, repeats) ∈ [(Instr.outi, (1 : Word), false), (.otir, 1, true), (.outd, -1, false), (.otdr, -1, true)] →
      v = s.readByte s.hl → b = s.reg .b - 1 → k = v.toNat + (loByte (s.hl + δ)).toNat →
      ∃ t, Runs i s t (if repeats = true ∧ b ≠ 0 then 21 else 16) [.reg .b, .reg .h, .reg .l, .f, .pc, .ports] []
        ∧ t.hl = s.hl + δ ∧ t.reg .b = b
        ∧ t.ports = { s.ports with written := s.ports.written ++ [(mkWord b (s.reg .c), v)] }
        ∧ t.pc = (if repeats = true ∧ b ≠ 0 then s.pc - 2 else s.pc)
        ∧ t.f = flagByte (b.getLsbD 7) (b == 0) (b.getLsbD 5) (decide (255 < k)) (b.getLsbD 3)
          (evenOnes (BitVec.ofNat 8 (k % 8) ^^^ b)) (v.getLsbD 7) (decide (255 < k))

/-- LDIR and LDDR started with BC = n ≥ 1 and left undisturbed run n steps, n - 1 of 21 T-states and one of 16, end with BC = 0 and
PC after the instruction, and have moved HL and DE by n (R403); where no byte they write is one they still have to read, they
have copied n bytes. "Undisturbed": throttle negative, not halted, and no byte they write is one of their own two; a positive
throttle is left out. -/
def Obligations.BlockMoveRunsNSteps : Prop :=
  ∀ (s : State) (i : Instr) (δ : Word) (op : Byte),
    (i, δ, op) ∈ [(Instr.ldir, (1 : Word), (0xB0 : Byte)), (.lddr, -1, 0xB8)] →
    s.mem.wf = true → s.throttle < 0 → s.halted = false → s.readByte s.pc = 0xED → s.readByte (s.pc + 1) = op → s.bc ≠ 0 →
    (∀ k < s.bc.toNat, s.de + BitVec.ofNat 16 k * δ ≠ s.pc ∧ s.de + BitVec.ofNat 16 k * δ ≠ s.pc + 1) →
    ∃ t, stepTimes s.bc.toNat s = .next t ∧ t.bc = 0 ∧ t.pc = s.pc + 2
      ∧ t.cycles = s.cycles + 21 * (s.bc.toNat - 1) + 16
      ∧ t.hl = s.hl + s.bc * δ ∧ t.de = s.de + s.bc * δ ∧ t.rlo = s.rlo + BitVec.ofNat 7 (2 * s.bc.toNat)
      ∧ (∀ a : Word, (∀ k < s.bc.toNat, a ≠ s.de + BitVec.ofNat 16 k * δ) → t.readByte a = s.readByte a)
      ∧ ((∀ j < s.bc.toNat, ∀ k < j, s.hl + BitVec.ofNat 16 j * δ ≠ s.de + BitVec.ofNat 16 k * δ) →
          ∀ k < s.bc.toNat, t.readByte (s.de + BitVec.ofNat 16 k * δ) = s.readByte (s.hl + BitVec.ofNat 16 k * δ))

/-! ## Input, output and CPU control -/

/-- IN A,(n) (R378), IN r,(C) (R379), IN F,(C) (R380), OUT (n),A (R385), OUT (C),r (R386) and OUT (C),0 (R387). The byte read is the
port device's answer, a draw (log entry 3). -/
def Obligations.InputAndOutput : Prop :=
  (∀ n : Byte, Encodes [0xDB, n] 1 (.inAN n) ∧ Encodes [0xD3, n] 1 (.outNA n))
    ∧ (∀ r : Reg8, Encodes [0xED, 0b01#2 ++ r.code ++ 0b000#3] 2 (.inRC r) ∧ Encodes [0xED, 0b01#2 ++ r.code ++ 0b001#3] 2 (.outCR r))
    ∧ Encodes [0xED, 0x70] 2 .inFC ∧ Encodes [0xED, 0x71] 2 .outC0
    ∧ ∀ s : State,
      (∀ n, ∃ t, Runs (.inAN n) s t 11 [.reg .a, .draws] [] ∧ t.a = s.portRead (mkWord s.a n) ∧ t.draws = s.draws + 1)
        ∧ (∀ r, ∃ t, Runs (.inRC r) s t 12 [.reg r, .f, .draws] [] ∧ t.reg r = s.portRead s.bc ∧ t.draws = s.draws + 1
          ∧ t.f = parityFlags (s.portRead s.bc) false false (s.f.getLsbD 0))
        ∧ (∃ t, Runs .inFC s t 12 [.f, .draws] [] ∧ t.draws = s.draws + 1
          ∧ t.f = parityFlags (s.portRead s.bc) false false (s.f.getLsbD 0))
        ∧ (∀ n, ∃ t, Runs (.outNA n) s t 11 [.ports] []
          ∧ t.ports = { s.ports with written := s.ports.written ++ [(mkWord s.a n, s.a)] })
        ∧ (∀ r, ∃ t, Runs (.outCR r) s t 12 [.ports] []
          ∧ t.ports = { s.ports with written := s.ports.written ++ [(s.bc, s.reg r)] })
        ∧ ∃ t, Runs .outC0 s t 12 [.ports] []
          ∧ t.ports = { s.ports with written := s.ports.written ++ [(s.bc, 0x00)] }

/-- NOP (R392), HALT (R393), DI (R394), EI (R395), IM 0, 1 and 2 with their aliases (R396-R398), the ED no-ops, which are
the 178 bytes of R122 (R401), and the fallen-back prefix (R113). -/
def Obligations.CpuControl : Prop :=
  Encodes [0x00] 1 .nop ∧ Encodes [0x76] 1 .halt ∧ Encodes [0xF3] 1 .di ∧ Encodes [0xFB] 1 .ei
    ∧ (∀ op ∈ [(0x46 : Byte), 0x4E, 0x66, 0x6E], Encodes [0xED, op] 2 .im0)
    ∧ (∀ op ∈ [(0x56 : Byte), 0x76], Encodes [0xED, op] 2 .im1)
    ∧ (∀ op ∈ [(0x5E : Byte), 0x7E], Encodes [0xED, op] 2 .im2)
    ∧ (∀ op : Byte, (op.toNat ≤ 0x3F ∨ op = 0x77 ∨ op = 0x7F ∨ (0x80 ≤ op.toNat ∧ op.toNat ≤ 0x9F)
        ∨ (0xA4 ≤ op.toNat ∧ op.toNat ≤ 0xA7) ∨ (0xAC ≤ op.toNat ∧ op.toNat ≤ 0xAF)
        ∨ (0xB4 ≤ op.toNat ∧ op.toNat ≤ 0xB7) ∨ (0xBC ≤ op.toNat ∧ op.toNat ≤ 0xBF) ∨ 0xC0 ≤ op.toNat) →
          Encodes [0xED, op] 2 (.edNop op))
    ∧ ∀ s : State,
      (∃ t, Runs .nop s t 4 [] [])
        ∧ (∃ t, Runs .halt s t 4 [.halted] [] ∧ t.halted = true)
        ∧ (∃ t, Runs .di s t 4 [.iff1, .iff2] [] ∧ t.iff1 = false ∧ t.iff2 = false)
        ∧ (∃ t, Runs .ei s t 4 [.iff1, .iff2] [] ∧ t.iff1 = true ∧ t.iff2 = true)
        ∧ (∃ t, Runs .im0 s t 8 [.im] [] ∧ t.im = 0)
        ∧ (∃ t, Runs .im1 s t 8 [.im] [] ∧ t.im = 1)
        ∧ (∃ t, Runs .im2 s t 8 [.im] [] ∧ t.im = 2)
        ∧ (∀ op, ∃ t, Runs (.edNop op) s t 8 [] [])
        ∧ (∀ x nxt, ∃ t, Runs (.prefixFallback x nxt) s t 4 [] [])
        ∧ ∀ x, ∃ t, Runs (.fallbackBeforeHalt x) s t 4 [] []

/-! ## Interrupts, reset and snapshots -/

/-- Non-maskable acceptance, from any state (R436): PC pushed, PC at 0x0066, IFF1 cleared, IFF2 kept, halted cleared, one refresh
increment, 11 T-states, nothing else; a maskable request beside it is dropped (R441). -/
def Obligations.NonMaskableAcceptance : Prop :=
  ∀ (s : State) (irq : Bool) (data : Byte), ∃ t, accept true irq data s = .next t
    ∧ t.cycles = s.cycles + 11 ∧ Frame [.sp, .pc, .iff1, .halted, .rlo] [s.sp - 2, s.sp - 1] s t
    ∧ t.pc = 0x0066 ∧ t.sp = s.sp - 2 ∧ t.iff1 = false ∧ t.iff2 = s.iff2 ∧ t.halted = false ∧ t.rlo = s.rlo + 1
    ∧ Holds s t (s.sp - 2) (loByte s.pc) ∧ Holds s t (s.sp - 1) (hiByte s.pc)

/-- Maskable acceptance while IFF1 = 1 (R434, R435, R438, R439): both flip-flops and halted cleared, one refresh increment, PC
pushed, then the vector of the mode: the RST of the data byte, 0x0038, or the word at I:data read after the push. -/
def Obligations.MaskableAcceptance : Prop :=
  ∀ (s : State) (data : Byte), s.iff1 = true → s.im ≠ 3 → (s.im = 0 → data &&& 0xC7 = 0xC7) →
    ∃ t, accept false true data s = .next t
      ∧ t.cycles = s.cycles + (if s.im = 2 then 19 else 13)
      ∧ Frame [.sp, .pc, .iff1, .iff2, .halted, .rlo] [s.sp - 2, s.sp - 1] s t
      ∧ t.sp = s.sp - 2 ∧ t.iff1 = false ∧ t.iff2 = false ∧ t.halted = false ∧ t.rlo = s.rlo + 1
      ∧ Holds s t (s.sp - 2) (loByte s.pc) ∧ Holds s t (s.sp - 1) (hiByte s.pc)
      ∧ (s.im = 0 → t.pc.toNat = data.toNat - 0xC7) ∧ (s.im = 1 → t.pc = 0x0038)
      ∧ (s.im = 2 → t.pc = mkWord (t.readByte (mkWord s.i data + 1)) (t.readByte (mkWord s.i data)))

/-- The two faults of acceptance (R435, R437), and the requests that are dropped: nothing asserted, or a maskable one while
IFF1 = 0 (R433, R445); `requestInterrupt()` is a maskable delivery with the device's data byte (R442). -/
def Obligations.AcceptanceFaultsAndDrops : Prop :=
  ∀ (s : State) (data : Byte),
    (s.iff1 = true → s.im = 3 → accept false true data s = .fault .badIm)
      ∧ (s.iff1 = true → s.im = 0 → data &&& 0xC7 ≠ 0xC7 → accept false true data s = .fault (.im0NotRst data))
      ∧ (s.iff1 = false → accept false true data s = .next s)
      ∧ accept false false data s = .next s
      ∧ requestInterrupt s = accept false true (s.ports.ackByte.getD 0xFF) s

/-- RETN after an NMI, and RETI after a maskable acceptance, resume where the interrupt came (R446): RETN gives IFF1 the value of
IFF2, its value before the NMI when the two were equal; RETI leaves IFF1 clear. -/
def Obligations.ReturnsUndoAcceptance : Prop :=
  ∀ (s t u : State) (irq : Bool) (data : Byte), s.mem.wf = true →
    (accept true irq data s = .next t → exec .retn t = .next u →
      u.pc = s.pc ∧ u.sp = s.sp ∧ u.iff1 = s.iff2 ∧ u.iff2 = s.iff2 ∧ u.main = s.main)
      ∧ (s.iff1 = true → accept false true data s = .next t → exec .reti t = .next u →
        u.pc = s.pc ∧ u.sp = s.sp ∧ u.iff1 = false ∧ u.main = s.main)

/-- The power-on values of R51 with the construction values of R52; `reset()` gives every field of the core its power-on value, and
leaves throttle, horizon, memory and the port device alone, in every state (R52, R470). What becomes of the model's own
bookkeeping (the hook's record and the count of draws, log entries 5 and 7) it does not say. -/
def Obligations.ResetValues : Prop :=
  (State.reset.main = ⟨0xFF, 0xFF, 0, 0, 0, 0, 0, 0⟩ ∧ State.reset.shadow = ⟨0, 0, 0, 0, 0, 0, 0, 0⟩
    ∧ State.reset.ix = 0 ∧ State.reset.iy = 0 ∧ State.reset.sp = 0xFFFF ∧ State.reset.pc = 0 ∧ State.reset.i = 0
    ∧ State.reset.r7 = false ∧ State.reset.rlo = 0 ∧ State.reset.iff1 = false ∧ State.reset.iff2 = false ∧ State.reset.im = 0
    ∧ State.reset.halted = false ∧ State.reset.cycles = 0 ∧ State.reset.throttle = -1 ∧ State.reset.horizon = 0)
    ∧ ∀ s : State, ∃ hooks draws, perform s .reset = .next { State.reset with
    throttle := s.throttle, horizon := s.horizon, mem := s.mem, ports := s.ports, hooks := hooks, draws := draws }

/-- Snapshot restore (R92, R93): every register as given, all 8 bits of R, `IFF2 <- IFF1`, `halted <- 0`; byte k of the image at
0x4000 + k, the bytes below 0x4000 as they were; cycles, throttle and horizon unchanged. -/
def Obligations.SnapshotRestore : Prop :=
  ∀ (s : State) (p : Snapshot), ∃ t, perform s (.restore p) = .next t
    ∧ t.main = p.main ∧ t.shadow = p.shadow ∧ t.ix = p.ix ∧ t.iy = p.iy ∧ t.sp = p.sp ∧ t.pc = p.pc ∧ t.i = p.i
    ∧ t.refresh = p.r ∧ t.im = p.im ∧ t.iff1 = p.iff1 ∧ t.iff2 = p.iff1 ∧ t.halted = false
    ∧ t.cycles = s.cycles ∧ t.throttle = s.throttle ∧ t.horizon = s.horizon ∧ t.ports = s.ports
    ∧ (∀ a : Word, a.toNat < 0x4000 → t.readByte a = s.readByte a)
    ∧ (s.mem.wf = true → ∀ k (h : k < snapshotSize), t.readByte (BitVec.ofNat 16 (0x4000 + k)) = p.image[k])

end Slice0Statements
end

