-- ==== Sys2Proof/Laws/Flags.lean ====
section
/-! SUPPORT. Flag bytes bit by bit: a flag byte equals another when its eight bits do, and each bit of `flagByte` and `flagIf` is
known. `simp` turns `getLsbD` into `getElem`: cite these with `-BitVec.getLsbD_eq_getElem`. -/

namespace Sys2Proof.Machine

/-- Two bytes with the same eight bits are equal. -/
theorem byte_eq_of_bits {x y : Byte} (h0 : x.getLsbD 0 = y.getLsbD 0) (h1 : x.getLsbD 1 = y.getLsbD 1)
    (h2 : x.getLsbD 2 = y.getLsbD 2) (h3 : x.getLsbD 3 = y.getLsbD 3) (h4 : x.getLsbD 4 = y.getLsbD 4)
    (h5 : x.getLsbD 5 = y.getLsbD 5) (h6 : x.getLsbD 6 = y.getLsbD 6) (h7 : x.getLsbD 7 = y.getLsbD 7) : x = y := by
  apply BitVec.eq_of_getLsbD_eq
  intro k hk
  match k, hk with
  | 0, _ => exact h0
  | 1, _ => exact h1
  | 2, _ => exact h2
  | 3, _ => exact h3
  | 4, _ => exact h4
  | 5, _ => exact h5
  | 6, _ => exact h6
  | 7, _ => exact h7

theorem getLsbD_flagIf (c : Bool) (m : Byte) (k : Nat) : (flagIf c m).getLsbD k = (c && m.getLsbD k) := by
  cases c <;> simp [flagIf]

/-! ## The bits of `flagByte` -/

theorem getLsbD_flagByte_0 (s z f5 h f3 pv n c : Bool) : (flagByte s z f5 h f3 pv n c).getLsbD 0 = c := by
  simp [flagByte, getLsbD_flagIf, -BitVec.getLsbD_eq_getElem]

theorem getLsbD_flagByte_1 (s z f5 h f3 pv n c : Bool) : (flagByte s z f5 h f3 pv n c).getLsbD 1 = n := by
  simp [flagByte, getLsbD_flagIf, -BitVec.getLsbD_eq_getElem]

theorem getLsbD_flagByte_2 (s z f5 h f3 pv n c : Bool) : (flagByte s z f5 h f3 pv n c).getLsbD 2 = pv := by
  simp [flagByte, getLsbD_flagIf, -BitVec.getLsbD_eq_getElem]

theorem getLsbD_flagByte_3 (s z f5 h f3 pv n c : Bool) : (flagByte s z f5 h f3 pv n c).getLsbD 3 = f3 := by
  simp [flagByte, getLsbD_flagIf, -BitVec.getLsbD_eq_getElem]

theorem getLsbD_flagByte_4 (s z f5 h f3 pv n c : Bool) : (flagByte s z f5 h f3 pv n c).getLsbD 4 = h := by
  simp [flagByte, getLsbD_flagIf, -BitVec.getLsbD_eq_getElem]

theorem getLsbD_flagByte_5 (s z f5 h f3 pv n c : Bool) : (flagByte s z f5 h f3 pv n c).getLsbD 5 = f5 := by
  simp [flagByte, getLsbD_flagIf, -BitVec.getLsbD_eq_getElem]

theorem getLsbD_flagByte_6 (s z f5 h f3 pv n c : Bool) : (flagByte s z f5 h f3 pv n c).getLsbD 6 = z := by
  simp [flagByte, getLsbD_flagIf, -BitVec.getLsbD_eq_getElem]

theorem getLsbD_flagByte_7 (s z f5 h f3 pv n c : Bool) : (flagByte s z f5 h f3 pv n c).getLsbD 7 = s := by
  simp [flagByte, getLsbD_flagIf, -BitVec.getLsbD_eq_getElem]

/-! ## `hasFlag` as a bit -/

theorem hasFlag_fC : ∀ f : Byte, hasFlag f fC = f.getLsbD 0 := by decide

theorem hasFlag_fN : ∀ f : Byte, hasFlag f fN = f.getLsbD 1 := by decide

theorem hasFlag_fPV : ∀ f : Byte, hasFlag f fPV = f.getLsbD 2 := by decide

theorem hasFlag_f3 : ∀ f : Byte, hasFlag f f3 = f.getLsbD 3 := by decide

theorem hasFlag_fH : ∀ f : Byte, hasFlag f fH = f.getLsbD 4 := by decide

theorem hasFlag_f5 : ∀ f : Byte, hasFlag f f5 = f.getLsbD 5 := by decide

theorem hasFlag_fZ : ∀ f : Byte, hasFlag f fZ = f.getLsbD 6 := by decide

theorem hasFlag_fS : ∀ f : Byte, hasFlag f fS = f.getLsbD 7 := by decide

theorem State.carry_eq (s : State) : s.carry = s.f.getLsbD 0 := hasFlag_fC s.f

theorem evenOnes_eq_popCount : ∀ v : Byte, evenOnes v = (popCount v % 2 == 0) := by decide

end Sys2Proof.Machine
end

