-- ==== Sys2Proof/Laws/State.lean ====
section
/-! SUPPORT. One lemma per field per update of State. -/

namespace Sys2Proof.Machine.State

/-! ## `withMain` -/

@[simp] theorem withMain_main (s : State) (v : Bank) : (s.withMain v).main = v := rfl
@[simp] theorem withMain_shadow (s : State) (v : Bank) : (s.withMain v).shadow = s.shadow := rfl
@[simp] theorem withMain_ix (s : State) (v : Bank) : (s.withMain v).ix = s.ix := rfl
@[simp] theorem withMain_iy (s : State) (v : Bank) : (s.withMain v).iy = s.iy := rfl
@[simp] theorem withMain_sp (s : State) (v : Bank) : (s.withMain v).sp = s.sp := rfl
@[simp] theorem withMain_pc (s : State) (v : Bank) : (s.withMain v).pc = s.pc := rfl
@[simp] theorem withMain_i (s : State) (v : Bank) : (s.withMain v).i = s.i := rfl
@[simp] theorem withMain_r7 (s : State) (v : Bank) : (s.withMain v).r7 = s.r7 := rfl
@[simp] theorem withMain_rlo (s : State) (v : Bank) : (s.withMain v).rlo = s.rlo := rfl
@[simp] theorem withMain_iff1 (s : State) (v : Bank) : (s.withMain v).iff1 = s.iff1 := rfl
@[simp] theorem withMain_iff2 (s : State) (v : Bank) : (s.withMain v).iff2 = s.iff2 := rfl
@[simp] theorem withMain_im (s : State) (v : Bank) : (s.withMain v).im = s.im := rfl
@[simp] theorem withMain_halted (s : State) (v : Bank) : (s.withMain v).halted = s.halted := rfl
@[simp] theorem withMain_cycles (s : State) (v : Bank) : (s.withMain v).cycles = s.cycles := rfl
@[simp] theorem withMain_throttle (s : State) (v : Bank) : (s.withMain v).throttle = s.throttle := rfl
@[simp] theorem withMain_horizon (s : State) (v : Bank) : (s.withMain v).horizon = s.horizon := rfl
@[simp] theorem withMain_mem (s : State) (v : Bank) : (s.withMain v).mem = s.mem := rfl
@[simp] theorem withMain_ports (s : State) (v : Bank) : (s.withMain v).ports = s.ports := rfl
@[simp] theorem withMain_hooks (s : State) (v : Bank) : (s.withMain v).hooks = s.hooks := rfl
@[simp] theorem withMain_draws (s : State) (v : Bank) : (s.withMain v).draws = s.draws := rfl

/-! ## `withShadow` -/

@[simp] theorem withShadow_main (s : State) (v : Bank) : (s.withShadow v).main = s.main := rfl
@[simp] theorem withShadow_shadow (s : State) (v : Bank) : (s.withShadow v).shadow = v := rfl
@[simp] theorem withShadow_ix (s : State) (v : Bank) : (s.withShadow v).ix = s.ix := rfl
@[simp] theorem withShadow_iy (s : State) (v : Bank) : (s.withShadow v).iy = s.iy := rfl
@[simp] theorem withShadow_sp (s : State) (v : Bank) : (s.withShadow v).sp = s.sp := rfl
@[simp] theorem withShadow_pc (s : State) (v : Bank) : (s.withShadow v).pc = s.pc := rfl
@[simp] theorem withShadow_i (s : State) (v : Bank) : (s.withShadow v).i = s.i := rfl
@[simp] theorem withShadow_r7 (s : State) (v : Bank) : (s.withShadow v).r7 = s.r7 := rfl
@[simp] theorem withShadow_rlo (s : State) (v : Bank) : (s.withShadow v).rlo = s.rlo := rfl
@[simp] theorem withShadow_iff1 (s : State) (v : Bank) : (s.withShadow v).iff1 = s.iff1 := rfl
@[simp] theorem withShadow_iff2 (s : State) (v : Bank) : (s.withShadow v).iff2 = s.iff2 := rfl
@[simp] theorem withShadow_im (s : State) (v : Bank) : (s.withShadow v).im = s.im := rfl
@[simp] theorem withShadow_halted (s : State) (v : Bank) : (s.withShadow v).halted = s.halted := rfl
@[simp] theorem withShadow_cycles (s : State) (v : Bank) : (s.withShadow v).cycles = s.cycles := rfl
@[simp] theorem withShadow_throttle (s : State) (v : Bank) : (s.withShadow v).throttle = s.throttle := rfl
@[simp] theorem withShadow_horizon (s : State) (v : Bank) : (s.withShadow v).horizon = s.horizon := rfl
@[simp] theorem withShadow_mem (s : State) (v : Bank) : (s.withShadow v).mem = s.mem := rfl
@[simp] theorem withShadow_ports (s : State) (v : Bank) : (s.withShadow v).ports = s.ports := rfl
@[simp] theorem withShadow_hooks (s : State) (v : Bank) : (s.withShadow v).hooks = s.hooks := rfl
@[simp] theorem withShadow_draws (s : State) (v : Bank) : (s.withShadow v).draws = s.draws := rfl

/-! ## `withIx` -/

@[simp] theorem withIx_main (s : State) (v : Word) : (s.withIx v).main = s.main := rfl
@[simp] theorem withIx_shadow (s : State) (v : Word) : (s.withIx v).shadow = s.shadow := rfl
@[simp] theorem withIx_ix (s : State) (v : Word) : (s.withIx v).ix = v := rfl
@[simp] theorem withIx_iy (s : State) (v : Word) : (s.withIx v).iy = s.iy := rfl
@[simp] theorem withIx_sp (s : State) (v : Word) : (s.withIx v).sp = s.sp := rfl
@[simp] theorem withIx_pc (s : State) (v : Word) : (s.withIx v).pc = s.pc := rfl
@[simp] theorem withIx_i (s : State) (v : Word) : (s.withIx v).i = s.i := rfl
@[simp] theorem withIx_r7 (s : State) (v : Word) : (s.withIx v).r7 = s.r7 := rfl
@[simp] theorem withIx_rlo (s : State) (v : Word) : (s.withIx v).rlo = s.rlo := rfl
@[simp] theorem withIx_iff1 (s : State) (v : Word) : (s.withIx v).iff1 = s.iff1 := rfl
@[simp] theorem withIx_iff2 (s : State) (v : Word) : (s.withIx v).iff2 = s.iff2 := rfl
@[simp] theorem withIx_im (s : State) (v : Word) : (s.withIx v).im = s.im := rfl
@[simp] theorem withIx_halted (s : State) (v : Word) : (s.withIx v).halted = s.halted := rfl
@[simp] theorem withIx_cycles (s : State) (v : Word) : (s.withIx v).cycles = s.cycles := rfl
@[simp] theorem withIx_throttle (s : State) (v : Word) : (s.withIx v).throttle = s.throttle := rfl
@[simp] theorem withIx_horizon (s : State) (v : Word) : (s.withIx v).horizon = s.horizon := rfl
@[simp] theorem withIx_mem (s : State) (v : Word) : (s.withIx v).mem = s.mem := rfl
@[simp] theorem withIx_ports (s : State) (v : Word) : (s.withIx v).ports = s.ports := rfl
@[simp] theorem withIx_hooks (s : State) (v : Word) : (s.withIx v).hooks = s.hooks := rfl
@[simp] theorem withIx_draws (s : State) (v : Word) : (s.withIx v).draws = s.draws := rfl

/-! ## `withIy` -/

@[simp] theorem withIy_main (s : State) (v : Word) : (s.withIy v).main = s.main := rfl
@[simp] theorem withIy_shadow (s : State) (v : Word) : (s.withIy v).shadow = s.shadow := rfl
@[simp] theorem withIy_ix (s : State) (v : Word) : (s.withIy v).ix = s.ix := rfl
@[simp] theorem withIy_iy (s : State) (v : Word) : (s.withIy v).iy = v := rfl
@[simp] theorem withIy_sp (s : State) (v : Word) : (s.withIy v).sp = s.sp := rfl
@[simp] theorem withIy_pc (s : State) (v : Word) : (s.withIy v).pc = s.pc := rfl
@[simp] theorem withIy_i (s : State) (v : Word) : (s.withIy v).i = s.i := rfl
@[simp] theorem withIy_r7 (s : State) (v : Word) : (s.withIy v).r7 = s.r7 := rfl
@[simp] theorem withIy_rlo (s : State) (v : Word) : (s.withIy v).rlo = s.rlo := rfl
@[simp] theorem withIy_iff1 (s : State) (v : Word) : (s.withIy v).iff1 = s.iff1 := rfl
@[simp] theorem withIy_iff2 (s : State) (v : Word) : (s.withIy v).iff2 = s.iff2 := rfl
@[simp] theorem withIy_im (s : State) (v : Word) : (s.withIy v).im = s.im := rfl
@[simp] theorem withIy_halted (s : State) (v : Word) : (s.withIy v).halted = s.halted := rfl
@[simp] theorem withIy_cycles (s : State) (v : Word) : (s.withIy v).cycles = s.cycles := rfl
@[simp] theorem withIy_throttle (s : State) (v : Word) : (s.withIy v).throttle = s.throttle := rfl
@[simp] theorem withIy_horizon (s : State) (v : Word) : (s.withIy v).horizon = s.horizon := rfl
@[simp] theorem withIy_mem (s : State) (v : Word) : (s.withIy v).mem = s.mem := rfl
@[simp] theorem withIy_ports (s : State) (v : Word) : (s.withIy v).ports = s.ports := rfl
@[simp] theorem withIy_hooks (s : State) (v : Word) : (s.withIy v).hooks = s.hooks := rfl
@[simp] theorem withIy_draws (s : State) (v : Word) : (s.withIy v).draws = s.draws := rfl

/-! ## `withSp` -/

@[simp] theorem withSp_main (s : State) (v : Word) : (s.withSp v).main = s.main := rfl
@[simp] theorem withSp_shadow (s : State) (v : Word) : (s.withSp v).shadow = s.shadow := rfl
@[simp] theorem withSp_ix (s : State) (v : Word) : (s.withSp v).ix = s.ix := rfl
@[simp] theorem withSp_iy (s : State) (v : Word) : (s.withSp v).iy = s.iy := rfl
@[simp] theorem withSp_sp (s : State) (v : Word) : (s.withSp v).sp = v := rfl
@[simp] theorem withSp_pc (s : State) (v : Word) : (s.withSp v).pc = s.pc := rfl
@[simp] theorem withSp_i (s : State) (v : Word) : (s.withSp v).i = s.i := rfl
@[simp] theorem withSp_r7 (s : State) (v : Word) : (s.withSp v).r7 = s.r7 := rfl
@[simp] theorem withSp_rlo (s : State) (v : Word) : (s.withSp v).rlo = s.rlo := rfl
@[simp] theorem withSp_iff1 (s : State) (v : Word) : (s.withSp v).iff1 = s.iff1 := rfl
@[simp] theorem withSp_iff2 (s : State) (v : Word) : (s.withSp v).iff2 = s.iff2 := rfl
@[simp] theorem withSp_im (s : State) (v : Word) : (s.withSp v).im = s.im := rfl
@[simp] theorem withSp_halted (s : State) (v : Word) : (s.withSp v).halted = s.halted := rfl
@[simp] theorem withSp_cycles (s : State) (v : Word) : (s.withSp v).cycles = s.cycles := rfl
@[simp] theorem withSp_throttle (s : State) (v : Word) : (s.withSp v).throttle = s.throttle := rfl
@[simp] theorem withSp_horizon (s : State) (v : Word) : (s.withSp v).horizon = s.horizon := rfl
@[simp] theorem withSp_mem (s : State) (v : Word) : (s.withSp v).mem = s.mem := rfl
@[simp] theorem withSp_ports (s : State) (v : Word) : (s.withSp v).ports = s.ports := rfl
@[simp] theorem withSp_hooks (s : State) (v : Word) : (s.withSp v).hooks = s.hooks := rfl
@[simp] theorem withSp_draws (s : State) (v : Word) : (s.withSp v).draws = s.draws := rfl

/-! ## `withPc` -/

@[simp] theorem withPc_main (s : State) (v : Word) : (s.withPc v).main = s.main := rfl
@[simp] theorem withPc_shadow (s : State) (v : Word) : (s.withPc v).shadow = s.shadow := rfl
@[simp] theorem withPc_ix (s : State) (v : Word) : (s.withPc v).ix = s.ix := rfl
@[simp] theorem withPc_iy (s : State) (v : Word) : (s.withPc v).iy = s.iy := rfl
@[simp] theorem withPc_sp (s : State) (v : Word) : (s.withPc v).sp = s.sp := rfl
@[simp] theorem withPc_pc (s : State) (v : Word) : (s.withPc v).pc = v := rfl
@[simp] theorem withPc_i (s : State) (v : Word) : (s.withPc v).i = s.i := rfl
@[simp] theorem withPc_r7 (s : State) (v : Word) : (s.withPc v).r7 = s.r7 := rfl
@[simp] theorem withPc_rlo (s : State) (v : Word) : (s.withPc v).rlo = s.rlo := rfl
@[simp] theorem withPc_iff1 (s : State) (v : Word) : (s.withPc v).iff1 = s.iff1 := rfl
@[simp] theorem withPc_iff2 (s : State) (v : Word) : (s.withPc v).iff2 = s.iff2 := rfl
@[simp] theorem withPc_im (s : State) (v : Word) : (s.withPc v).im = s.im := rfl
@[simp] theorem withPc_halted (s : State) (v : Word) : (s.withPc v).halted = s.halted := rfl
@[simp] theorem withPc_cycles (s : State) (v : Word) : (s.withPc v).cycles = s.cycles := rfl
@[simp] theorem withPc_throttle (s : State) (v : Word) : (s.withPc v).throttle = s.throttle := rfl
@[simp] theorem withPc_horizon (s : State) (v : Word) : (s.withPc v).horizon = s.horizon := rfl
@[simp] theorem withPc_mem (s : State) (v : Word) : (s.withPc v).mem = s.mem := rfl
@[simp] theorem withPc_ports (s : State) (v : Word) : (s.withPc v).ports = s.ports := rfl
@[simp] theorem withPc_hooks (s : State) (v : Word) : (s.withPc v).hooks = s.hooks := rfl
@[simp] theorem withPc_draws (s : State) (v : Word) : (s.withPc v).draws = s.draws := rfl

/-! ## `withI` -/

@[simp] theorem withI_main (s : State) (v : Byte) : (s.withI v).main = s.main := rfl
@[simp] theorem withI_shadow (s : State) (v : Byte) : (s.withI v).shadow = s.shadow := rfl
@[simp] theorem withI_ix (s : State) (v : Byte) : (s.withI v).ix = s.ix := rfl
@[simp] theorem withI_iy (s : State) (v : Byte) : (s.withI v).iy = s.iy := rfl
@[simp] theorem withI_sp (s : State) (v : Byte) : (s.withI v).sp = s.sp := rfl
@[simp] theorem withI_pc (s : State) (v : Byte) : (s.withI v).pc = s.pc := rfl
@[simp] theorem withI_i (s : State) (v : Byte) : (s.withI v).i = v := rfl
@[simp] theorem withI_r7 (s : State) (v : Byte) : (s.withI v).r7 = s.r7 := rfl
@[simp] theorem withI_rlo (s : State) (v : Byte) : (s.withI v).rlo = s.rlo := rfl
@[simp] theorem withI_iff1 (s : State) (v : Byte) : (s.withI v).iff1 = s.iff1 := rfl
@[simp] theorem withI_iff2 (s : State) (v : Byte) : (s.withI v).iff2 = s.iff2 := rfl
@[simp] theorem withI_im (s : State) (v : Byte) : (s.withI v).im = s.im := rfl
@[simp] theorem withI_halted (s : State) (v : Byte) : (s.withI v).halted = s.halted := rfl
@[simp] theorem withI_cycles (s : State) (v : Byte) : (s.withI v).cycles = s.cycles := rfl
@[simp] theorem withI_throttle (s : State) (v : Byte) : (s.withI v).throttle = s.throttle := rfl
@[simp] theorem withI_horizon (s : State) (v : Byte) : (s.withI v).horizon = s.horizon := rfl
@[simp] theorem withI_mem (s : State) (v : Byte) : (s.withI v).mem = s.mem := rfl
@[simp] theorem withI_ports (s : State) (v : Byte) : (s.withI v).ports = s.ports := rfl
@[simp] theorem withI_hooks (s : State) (v : Byte) : (s.withI v).hooks = s.hooks := rfl
@[simp] theorem withI_draws (s : State) (v : Byte) : (s.withI v).draws = s.draws := rfl

/-! ## `withR7` -/

@[simp] theorem withR7_main (s : State) (v : Bool) : (s.withR7 v).main = s.main := rfl
@[simp] theorem withR7_shadow (s : State) (v : Bool) : (s.withR7 v).shadow = s.shadow := rfl
@[simp] theorem withR7_ix (s : State) (v : Bool) : (s.withR7 v).ix = s.ix := rfl
@[simp] theorem withR7_iy (s : State) (v : Bool) : (s.withR7 v).iy = s.iy := rfl
@[simp] theorem withR7_sp (s : State) (v : Bool) : (s.withR7 v).sp = s.sp := rfl
@[simp] theorem withR7_pc (s : State) (v : Bool) : (s.withR7 v).pc = s.pc := rfl
@[simp] theorem withR7_i (s : State) (v : Bool) : (s.withR7 v).i = s.i := rfl
@[simp] theorem withR7_r7 (s : State) (v : Bool) : (s.withR7 v).r7 = v := rfl
@[simp] theorem withR7_rlo (s : State) (v : Bool) : (s.withR7 v).rlo = s.rlo := rfl
@[simp] theorem withR7_iff1 (s : State) (v : Bool) : (s.withR7 v).iff1 = s.iff1 := rfl
@[simp] theorem withR7_iff2 (s : State) (v : Bool) : (s.withR7 v).iff2 = s.iff2 := rfl
@[simp] theorem withR7_im (s : State) (v : Bool) : (s.withR7 v).im = s.im := rfl
@[simp] theorem withR7_halted (s : State) (v : Bool) : (s.withR7 v).halted = s.halted := rfl
@[simp] theorem withR7_cycles (s : State) (v : Bool) : (s.withR7 v).cycles = s.cycles := rfl
@[simp] theorem withR7_throttle (s : State) (v : Bool) : (s.withR7 v).throttle = s.throttle := rfl
@[simp] theorem withR7_horizon (s : State) (v : Bool) : (s.withR7 v).horizon = s.horizon := rfl
@[simp] theorem withR7_mem (s : State) (v : Bool) : (s.withR7 v).mem = s.mem := rfl
@[simp] theorem withR7_ports (s : State) (v : Bool) : (s.withR7 v).ports = s.ports := rfl
@[simp] theorem withR7_hooks (s : State) (v : Bool) : (s.withR7 v).hooks = s.hooks := rfl
@[simp] theorem withR7_draws (s : State) (v : Bool) : (s.withR7 v).draws = s.draws := rfl

/-! ## `withRlo` -/

@[simp] theorem withRlo_main (s : State) (v : BitVec 7) : (s.withRlo v).main = s.main := rfl
@[simp] theorem withRlo_shadow (s : State) (v : BitVec 7) : (s.withRlo v).shadow = s.shadow := rfl
@[simp] theorem withRlo_ix (s : State) (v : BitVec 7) : (s.withRlo v).ix = s.ix := rfl
@[simp] theorem withRlo_iy (s : State) (v : BitVec 7) : (s.withRlo v).iy = s.iy := rfl
@[simp] theorem withRlo_sp (s : State) (v : BitVec 7) : (s.withRlo v).sp = s.sp := rfl
@[simp] theorem withRlo_pc (s : State) (v : BitVec 7) : (s.withRlo v).pc = s.pc := rfl
@[simp] theorem withRlo_i (s : State) (v : BitVec 7) : (s.withRlo v).i = s.i := rfl
@[simp] theorem withRlo_r7 (s : State) (v : BitVec 7) : (s.withRlo v).r7 = s.r7 := rfl
@[simp] theorem withRlo_rlo (s : State) (v : BitVec 7) : (s.withRlo v).rlo = v := rfl
@[simp] theorem withRlo_iff1 (s : State) (v : BitVec 7) : (s.withRlo v).iff1 = s.iff1 := rfl
@[simp] theorem withRlo_iff2 (s : State) (v : BitVec 7) : (s.withRlo v).iff2 = s.iff2 := rfl
@[simp] theorem withRlo_im (s : State) (v : BitVec 7) : (s.withRlo v).im = s.im := rfl
@[simp] theorem withRlo_halted (s : State) (v : BitVec 7) : (s.withRlo v).halted = s.halted := rfl
@[simp] theorem withRlo_cycles (s : State) (v : BitVec 7) : (s.withRlo v).cycles = s.cycles := rfl
@[simp] theorem withRlo_throttle (s : State) (v : BitVec 7) : (s.withRlo v).throttle = s.throttle := rfl
@[simp] theorem withRlo_horizon (s : State) (v : BitVec 7) : (s.withRlo v).horizon = s.horizon := rfl
@[simp] theorem withRlo_mem (s : State) (v : BitVec 7) : (s.withRlo v).mem = s.mem := rfl
@[simp] theorem withRlo_ports (s : State) (v : BitVec 7) : (s.withRlo v).ports = s.ports := rfl
@[simp] theorem withRlo_hooks (s : State) (v : BitVec 7) : (s.withRlo v).hooks = s.hooks := rfl
@[simp] theorem withRlo_draws (s : State) (v : BitVec 7) : (s.withRlo v).draws = s.draws := rfl

/-! ## `withIff1` -/

@[simp] theorem withIff1_main (s : State) (v : Bool) : (s.withIff1 v).main = s.main := rfl
@[simp] theorem withIff1_shadow (s : State) (v : Bool) : (s.withIff1 v).shadow = s.shadow := rfl
@[simp] theorem withIff1_ix (s : State) (v : Bool) : (s.withIff1 v).ix = s.ix := rfl
@[simp] theorem withIff1_iy (s : State) (v : Bool) : (s.withIff1 v).iy = s.iy := rfl
@[simp] theorem withIff1_sp (s : State) (v : Bool) : (s.withIff1 v).sp = s.sp := rfl
@[simp] theorem withIff1_pc (s : State) (v : Bool) : (s.withIff1 v).pc = s.pc := rfl
@[simp] theorem withIff1_i (s : State) (v : Bool) : (s.withIff1 v).i = s.i := rfl
@[simp] theorem withIff1_r7 (s : State) (v : Bool) : (s.withIff1 v).r7 = s.r7 := rfl
@[simp] theorem withIff1_rlo (s : State) (v : Bool) : (s.withIff1 v).rlo = s.rlo := rfl
@[simp] theorem withIff1_iff1 (s : State) (v : Bool) : (s.withIff1 v).iff1 = v := rfl
@[simp] theorem withIff1_iff2 (s : State) (v : Bool) : (s.withIff1 v).iff2 = s.iff2 := rfl
@[simp] theorem withIff1_im (s : State) (v : Bool) : (s.withIff1 v).im = s.im := rfl
@[simp] theorem withIff1_halted (s : State) (v : Bool) : (s.withIff1 v).halted = s.halted := rfl
@[simp] theorem withIff1_cycles (s : State) (v : Bool) : (s.withIff1 v).cycles = s.cycles := rfl
@[simp] theorem withIff1_throttle (s : State) (v : Bool) : (s.withIff1 v).throttle = s.throttle := rfl
@[simp] theorem withIff1_horizon (s : State) (v : Bool) : (s.withIff1 v).horizon = s.horizon := rfl
@[simp] theorem withIff1_mem (s : State) (v : Bool) : (s.withIff1 v).mem = s.mem := rfl
@[simp] theorem withIff1_ports (s : State) (v : Bool) : (s.withIff1 v).ports = s.ports := rfl
@[simp] theorem withIff1_hooks (s : State) (v : Bool) : (s.withIff1 v).hooks = s.hooks := rfl
@[simp] theorem withIff1_draws (s : State) (v : Bool) : (s.withIff1 v).draws = s.draws := rfl

/-! ## `withIff2` -/

@[simp] theorem withIff2_main (s : State) (v : Bool) : (s.withIff2 v).main = s.main := rfl
@[simp] theorem withIff2_shadow (s : State) (v : Bool) : (s.withIff2 v).shadow = s.shadow := rfl
@[simp] theorem withIff2_ix (s : State) (v : Bool) : (s.withIff2 v).ix = s.ix := rfl
@[simp] theorem withIff2_iy (s : State) (v : Bool) : (s.withIff2 v).iy = s.iy := rfl
@[simp] theorem withIff2_sp (s : State) (v : Bool) : (s.withIff2 v).sp = s.sp := rfl
@[simp] theorem withIff2_pc (s : State) (v : Bool) : (s.withIff2 v).pc = s.pc := rfl
@[simp] theorem withIff2_i (s : State) (v : Bool) : (s.withIff2 v).i = s.i := rfl
@[simp] theorem withIff2_r7 (s : State) (v : Bool) : (s.withIff2 v).r7 = s.r7 := rfl
@[simp] theorem withIff2_rlo (s : State) (v : Bool) : (s.withIff2 v).rlo = s.rlo := rfl
@[simp] theorem withIff2_iff1 (s : State) (v : Bool) : (s.withIff2 v).iff1 = s.iff1 := rfl
@[simp] theorem withIff2_iff2 (s : State) (v : Bool) : (s.withIff2 v).iff2 = v := rfl
@[simp] theorem withIff2_im (s : State) (v : Bool) : (s.withIff2 v).im = s.im := rfl
@[simp] theorem withIff2_halted (s : State) (v : Bool) : (s.withIff2 v).halted = s.halted := rfl
@[simp] theorem withIff2_cycles (s : State) (v : Bool) : (s.withIff2 v).cycles = s.cycles := rfl
@[simp] theorem withIff2_throttle (s : State) (v : Bool) : (s.withIff2 v).throttle = s.throttle := rfl
@[simp] theorem withIff2_horizon (s : State) (v : Bool) : (s.withIff2 v).horizon = s.horizon := rfl
@[simp] theorem withIff2_mem (s : State) (v : Bool) : (s.withIff2 v).mem = s.mem := rfl
@[simp] theorem withIff2_ports (s : State) (v : Bool) : (s.withIff2 v).ports = s.ports := rfl
@[simp] theorem withIff2_hooks (s : State) (v : Bool) : (s.withIff2 v).hooks = s.hooks := rfl
@[simp] theorem withIff2_draws (s : State) (v : Bool) : (s.withIff2 v).draws = s.draws := rfl

/-! ## `withIm` -/

@[simp] theorem withIm_main (s : State) (v : BitVec 2) : (s.withIm v).main = s.main := rfl
@[simp] theorem withIm_shadow (s : State) (v : BitVec 2) : (s.withIm v).shadow = s.shadow := rfl
@[simp] theorem withIm_ix (s : State) (v : BitVec 2) : (s.withIm v).ix = s.ix := rfl
@[simp] theorem withIm_iy (s : State) (v : BitVec 2) : (s.withIm v).iy = s.iy := rfl
@[simp] theorem withIm_sp (s : State) (v : BitVec 2) : (s.withIm v).sp = s.sp := rfl
@[simp] theorem withIm_pc (s : State) (v : BitVec 2) : (s.withIm v).pc = s.pc := rfl
@[simp] theorem withIm_i (s : State) (v : BitVec 2) : (s.withIm v).i = s.i := rfl
@[simp] theorem withIm_r7 (s : State) (v : BitVec 2) : (s.withIm v).r7 = s.r7 := rfl
@[simp] theorem withIm_rlo (s : State) (v : BitVec 2) : (s.withIm v).rlo = s.rlo := rfl
@[simp] theorem withIm_iff1 (s : State) (v : BitVec 2) : (s.withIm v).iff1 = s.iff1 := rfl
@[simp] theorem withIm_iff2 (s : State) (v : BitVec 2) : (s.withIm v).iff2 = s.iff2 := rfl
@[simp] theorem withIm_im (s : State) (v : BitVec 2) : (s.withIm v).im = v := rfl
@[simp] theorem withIm_halted (s : State) (v : BitVec 2) : (s.withIm v).halted = s.halted := rfl
@[simp] theorem withIm_cycles (s : State) (v : BitVec 2) : (s.withIm v).cycles = s.cycles := rfl
@[simp] theorem withIm_throttle (s : State) (v : BitVec 2) : (s.withIm v).throttle = s.throttle := rfl
@[simp] theorem withIm_horizon (s : State) (v : BitVec 2) : (s.withIm v).horizon = s.horizon := rfl
@[simp] theorem withIm_mem (s : State) (v : BitVec 2) : (s.withIm v).mem = s.mem := rfl
@[simp] theorem withIm_ports (s : State) (v : BitVec 2) : (s.withIm v).ports = s.ports := rfl
@[simp] theorem withIm_hooks (s : State) (v : BitVec 2) : (s.withIm v).hooks = s.hooks := rfl
@[simp] theorem withIm_draws (s : State) (v : BitVec 2) : (s.withIm v).draws = s.draws := rfl

/-! ## `withHalted` -/

@[simp] theorem withHalted_main (s : State) (v : Bool) : (s.withHalted v).main = s.main := rfl
@[simp] theorem withHalted_shadow (s : State) (v : Bool) : (s.withHalted v).shadow = s.shadow := rfl
@[simp] theorem withHalted_ix (s : State) (v : Bool) : (s.withHalted v).ix = s.ix := rfl
@[simp] theorem withHalted_iy (s : State) (v : Bool) : (s.withHalted v).iy = s.iy := rfl
@[simp] theorem withHalted_sp (s : State) (v : Bool) : (s.withHalted v).sp = s.sp := rfl
@[simp] theorem withHalted_pc (s : State) (v : Bool) : (s.withHalted v).pc = s.pc := rfl
@[simp] theorem withHalted_i (s : State) (v : Bool) : (s.withHalted v).i = s.i := rfl
@[simp] theorem withHalted_r7 (s : State) (v : Bool) : (s.withHalted v).r7 = s.r7 := rfl
@[simp] theorem withHalted_rlo (s : State) (v : Bool) : (s.withHalted v).rlo = s.rlo := rfl
@[simp] theorem withHalted_iff1 (s : State) (v : Bool) : (s.withHalted v).iff1 = s.iff1 := rfl
@[simp] theorem withHalted_iff2 (s : State) (v : Bool) : (s.withHalted v).iff2 = s.iff2 := rfl
@[simp] theorem withHalted_im (s : State) (v : Bool) : (s.withHalted v).im = s.im := rfl
@[simp] theorem withHalted_halted (s : State) (v : Bool) : (s.withHalted v).halted = v := rfl
@[simp] theorem withHalted_cycles (s : State) (v : Bool) : (s.withHalted v).cycles = s.cycles := rfl
@[simp] theorem withHalted_throttle (s : State) (v : Bool) : (s.withHalted v).throttle = s.throttle := rfl
@[simp] theorem withHalted_horizon (s : State) (v : Bool) : (s.withHalted v).horizon = s.horizon := rfl
@[simp] theorem withHalted_mem (s : State) (v : Bool) : (s.withHalted v).mem = s.mem := rfl
@[simp] theorem withHalted_ports (s : State) (v : Bool) : (s.withHalted v).ports = s.ports := rfl
@[simp] theorem withHalted_hooks (s : State) (v : Bool) : (s.withHalted v).hooks = s.hooks := rfl
@[simp] theorem withHalted_draws (s : State) (v : Bool) : (s.withHalted v).draws = s.draws := rfl

/-! ## `withCycles` -/

@[simp] theorem withCycles_main (s : State) (v : Nat) : (s.withCycles v).main = s.main := rfl
@[simp] theorem withCycles_shadow (s : State) (v : Nat) : (s.withCycles v).shadow = s.shadow := rfl
@[simp] theorem withCycles_ix (s : State) (v : Nat) : (s.withCycles v).ix = s.ix := rfl
@[simp] theorem withCycles_iy (s : State) (v : Nat) : (s.withCycles v).iy = s.iy := rfl
@[simp] theorem withCycles_sp (s : State) (v : Nat) : (s.withCycles v).sp = s.sp := rfl
@[simp] theorem withCycles_pc (s : State) (v : Nat) : (s.withCycles v).pc = s.pc := rfl
@[simp] theorem withCycles_i (s : State) (v : Nat) : (s.withCycles v).i = s.i := rfl
@[simp] theorem withCycles_r7 (s : State) (v : Nat) : (s.withCycles v).r7 = s.r7 := rfl
@[simp] theorem withCycles_rlo (s : State) (v : Nat) : (s.withCycles v).rlo = s.rlo := rfl
@[simp] theorem withCycles_iff1 (s : State) (v : Nat) : (s.withCycles v).iff1 = s.iff1 := rfl
@[simp] theorem withCycles_iff2 (s : State) (v : Nat) : (s.withCycles v).iff2 = s.iff2 := rfl
@[simp] theorem withCycles_im (s : State) (v : Nat) : (s.withCycles v).im = s.im := rfl
@[simp] theorem withCycles_halted (s : State) (v : Nat) : (s.withCycles v).halted = s.halted := rfl
@[simp] theorem withCycles_cycles (s : State) (v : Nat) : (s.withCycles v).cycles = v := rfl
@[simp] theorem withCycles_throttle (s : State) (v : Nat) : (s.withCycles v).throttle = s.throttle := rfl
@[simp] theorem withCycles_horizon (s : State) (v : Nat) : (s.withCycles v).horizon = s.horizon := rfl
@[simp] theorem withCycles_mem (s : State) (v : Nat) : (s.withCycles v).mem = s.mem := rfl
@[simp] theorem withCycles_ports (s : State) (v : Nat) : (s.withCycles v).ports = s.ports := rfl
@[simp] theorem withCycles_hooks (s : State) (v : Nat) : (s.withCycles v).hooks = s.hooks := rfl
@[simp] theorem withCycles_draws (s : State) (v : Nat) : (s.withCycles v).draws = s.draws := rfl

/-! ## `withThrottle` -/

@[simp] theorem withThrottle_main (s : State) (v : Int) : (s.withThrottle v).main = s.main := rfl
@[simp] theorem withThrottle_shadow (s : State) (v : Int) : (s.withThrottle v).shadow = s.shadow := rfl
@[simp] theorem withThrottle_ix (s : State) (v : Int) : (s.withThrottle v).ix = s.ix := rfl
@[simp] theorem withThrottle_iy (s : State) (v : Int) : (s.withThrottle v).iy = s.iy := rfl
@[simp] theorem withThrottle_sp (s : State) (v : Int) : (s.withThrottle v).sp = s.sp := rfl
@[simp] theorem withThrottle_pc (s : State) (v : Int) : (s.withThrottle v).pc = s.pc := rfl
@[simp] theorem withThrottle_i (s : State) (v : Int) : (s.withThrottle v).i = s.i := rfl
@[simp] theorem withThrottle_r7 (s : State) (v : Int) : (s.withThrottle v).r7 = s.r7 := rfl
@[simp] theorem withThrottle_rlo (s : State) (v : Int) : (s.withThrottle v).rlo = s.rlo := rfl
@[simp] theorem withThrottle_iff1 (s : State) (v : Int) : (s.withThrottle v).iff1 = s.iff1 := rfl
@[simp] theorem withThrottle_iff2 (s : State) (v : Int) : (s.withThrottle v).iff2 = s.iff2 := rfl
@[simp] theorem withThrottle_im (s : State) (v : Int) : (s.withThrottle v).im = s.im := rfl
@[simp] theorem withThrottle_halted (s : State) (v : Int) : (s.withThrottle v).halted = s.halted := rfl
@[simp] theorem withThrottle_cycles (s : State) (v : Int) : (s.withThrottle v).cycles = s.cycles := rfl
@[simp] theorem withThrottle_throttle (s : State) (v : Int) : (s.withThrottle v).throttle = v := rfl
@[simp] theorem withThrottle_horizon (s : State) (v : Int) : (s.withThrottle v).horizon = s.horizon := rfl
@[simp] theorem withThrottle_mem (s : State) (v : Int) : (s.withThrottle v).mem = s.mem := rfl
@[simp] theorem withThrottle_ports (s : State) (v : Int) : (s.withThrottle v).ports = s.ports := rfl
@[simp] theorem withThrottle_hooks (s : State) (v : Int) : (s.withThrottle v).hooks = s.hooks := rfl
@[simp] theorem withThrottle_draws (s : State) (v : Int) : (s.withThrottle v).draws = s.draws := rfl

/-! ## `withHorizon` -/

@[simp] theorem withHorizon_main (s : State) (v : Nat) : (s.withHorizon v).main = s.main := rfl
@[simp] theorem withHorizon_shadow (s : State) (v : Nat) : (s.withHorizon v).shadow = s.shadow := rfl
@[simp] theorem withHorizon_ix (s : State) (v : Nat) : (s.withHorizon v).ix = s.ix := rfl
@[simp] theorem withHorizon_iy (s : State) (v : Nat) : (s.withHorizon v).iy = s.iy := rfl
@[simp] theorem withHorizon_sp (s : State) (v : Nat) : (s.withHorizon v).sp = s.sp := rfl
@[simp] theorem withHorizon_pc (s : State) (v : Nat) : (s.withHorizon v).pc = s.pc := rfl
@[simp] theorem withHorizon_i (s : State) (v : Nat) : (s.withHorizon v).i = s.i := rfl
@[simp] theorem withHorizon_r7 (s : State) (v : Nat) : (s.withHorizon v).r7 = s.r7 := rfl
@[simp] theorem withHorizon_rlo (s : State) (v : Nat) : (s.withHorizon v).rlo = s.rlo := rfl
@[simp] theorem withHorizon_iff1 (s : State) (v : Nat) : (s.withHorizon v).iff1 = s.iff1 := rfl
@[simp] theorem withHorizon_iff2 (s : State) (v : Nat) : (s.withHorizon v).iff2 = s.iff2 := rfl
@[simp] theorem withHorizon_im (s : State) (v : Nat) : (s.withHorizon v).im = s.im := rfl
@[simp] theorem withHorizon_halted (s : State) (v : Nat) : (s.withHorizon v).halted = s.halted := rfl
@[simp] theorem withHorizon_cycles (s : State) (v : Nat) : (s.withHorizon v).cycles = s.cycles := rfl
@[simp] theorem withHorizon_throttle (s : State) (v : Nat) : (s.withHorizon v).throttle = s.throttle := rfl
@[simp] theorem withHorizon_horizon (s : State) (v : Nat) : (s.withHorizon v).horizon = v := rfl
@[simp] theorem withHorizon_mem (s : State) (v : Nat) : (s.withHorizon v).mem = s.mem := rfl
@[simp] theorem withHorizon_ports (s : State) (v : Nat) : (s.withHorizon v).ports = s.ports := rfl
@[simp] theorem withHorizon_hooks (s : State) (v : Nat) : (s.withHorizon v).hooks = s.hooks := rfl
@[simp] theorem withHorizon_draws (s : State) (v : Nat) : (s.withHorizon v).draws = s.draws := rfl

/-! ## `withMem` -/

@[simp] theorem withMem_main (s : State) (v : Memory) : (s.withMem v).main = s.main := rfl
@[simp] theorem withMem_shadow (s : State) (v : Memory) : (s.withMem v).shadow = s.shadow := rfl
@[simp] theorem withMem_ix (s : State) (v : Memory) : (s.withMem v).ix = s.ix := rfl
@[simp] theorem withMem_iy (s : State) (v : Memory) : (s.withMem v).iy = s.iy := rfl
@[simp] theorem withMem_sp (s : State) (v : Memory) : (s.withMem v).sp = s.sp := rfl
@[simp] theorem withMem_pc (s : State) (v : Memory) : (s.withMem v).pc = s.pc := rfl
@[simp] theorem withMem_i (s : State) (v : Memory) : (s.withMem v).i = s.i := rfl
@[simp] theorem withMem_r7 (s : State) (v : Memory) : (s.withMem v).r7 = s.r7 := rfl
@[simp] theorem withMem_rlo (s : State) (v : Memory) : (s.withMem v).rlo = s.rlo := rfl
@[simp] theorem withMem_iff1 (s : State) (v : Memory) : (s.withMem v).iff1 = s.iff1 := rfl
@[simp] theorem withMem_iff2 (s : State) (v : Memory) : (s.withMem v).iff2 = s.iff2 := rfl
@[simp] theorem withMem_im (s : State) (v : Memory) : (s.withMem v).im = s.im := rfl
@[simp] theorem withMem_halted (s : State) (v : Memory) : (s.withMem v).halted = s.halted := rfl
@[simp] theorem withMem_cycles (s : State) (v : Memory) : (s.withMem v).cycles = s.cycles := rfl
@[simp] theorem withMem_throttle (s : State) (v : Memory) : (s.withMem v).throttle = s.throttle := rfl
@[simp] theorem withMem_horizon (s : State) (v : Memory) : (s.withMem v).horizon = s.horizon := rfl
@[simp] theorem withMem_mem (s : State) (v : Memory) : (s.withMem v).mem = v := rfl
@[simp] theorem withMem_ports (s : State) (v : Memory) : (s.withMem v).ports = s.ports := rfl
@[simp] theorem withMem_hooks (s : State) (v : Memory) : (s.withMem v).hooks = s.hooks := rfl
@[simp] theorem withMem_draws (s : State) (v : Memory) : (s.withMem v).draws = s.draws := rfl

/-! ## `withPorts` -/

@[simp] theorem withPorts_main (s : State) (v : PortDevice) : (s.withPorts v).main = s.main := rfl
@[simp] theorem withPorts_shadow (s : State) (v : PortDevice) : (s.withPorts v).shadow = s.shadow := rfl
@[simp] theorem withPorts_ix (s : State) (v : PortDevice) : (s.withPorts v).ix = s.ix := rfl
@[simp] theorem withPorts_iy (s : State) (v : PortDevice) : (s.withPorts v).iy = s.iy := rfl
@[simp] theorem withPorts_sp (s : State) (v : PortDevice) : (s.withPorts v).sp = s.sp := rfl
@[simp] theorem withPorts_pc (s : State) (v : PortDevice) : (s.withPorts v).pc = s.pc := rfl
@[simp] theorem withPorts_i (s : State) (v : PortDevice) : (s.withPorts v).i = s.i := rfl
@[simp] theorem withPorts_r7 (s : State) (v : PortDevice) : (s.withPorts v).r7 = s.r7 := rfl
@[simp] theorem withPorts_rlo (s : State) (v : PortDevice) : (s.withPorts v).rlo = s.rlo := rfl
@[simp] theorem withPorts_iff1 (s : State) (v : PortDevice) : (s.withPorts v).iff1 = s.iff1 := rfl
@[simp] theorem withPorts_iff2 (s : State) (v : PortDevice) : (s.withPorts v).iff2 = s.iff2 := rfl
@[simp] theorem withPorts_im (s : State) (v : PortDevice) : (s.withPorts v).im = s.im := rfl
@[simp] theorem withPorts_halted (s : State) (v : PortDevice) : (s.withPorts v).halted = s.halted := rfl
@[simp] theorem withPorts_cycles (s : State) (v : PortDevice) : (s.withPorts v).cycles = s.cycles := rfl
@[simp] theorem withPorts_throttle (s : State) (v : PortDevice) : (s.withPorts v).throttle = s.throttle := rfl
@[simp] theorem withPorts_horizon (s : State) (v : PortDevice) : (s.withPorts v).horizon = s.horizon := rfl
@[simp] theorem withPorts_mem (s : State) (v : PortDevice) : (s.withPorts v).mem = s.mem := rfl
@[simp] theorem withPorts_ports (s : State) (v : PortDevice) : (s.withPorts v).ports = v := rfl
@[simp] theorem withPorts_hooks (s : State) (v : PortDevice) : (s.withPorts v).hooks = s.hooks := rfl
@[simp] theorem withPorts_draws (s : State) (v : PortDevice) : (s.withPorts v).draws = s.draws := rfl

/-! ## `withHooks` -/

@[simp] theorem withHooks_main (s : State) (v : List Word) : (s.withHooks v).main = s.main := rfl
@[simp] theorem withHooks_shadow (s : State) (v : List Word) : (s.withHooks v).shadow = s.shadow := rfl
@[simp] theorem withHooks_ix (s : State) (v : List Word) : (s.withHooks v).ix = s.ix := rfl
@[simp] theorem withHooks_iy (s : State) (v : List Word) : (s.withHooks v).iy = s.iy := rfl
@[simp] theorem withHooks_sp (s : State) (v : List Word) : (s.withHooks v).sp = s.sp := rfl
@[simp] theorem withHooks_pc (s : State) (v : List Word) : (s.withHooks v).pc = s.pc := rfl
@[simp] theorem withHooks_i (s : State) (v : List Word) : (s.withHooks v).i = s.i := rfl
@[simp] theorem withHooks_r7 (s : State) (v : List Word) : (s.withHooks v).r7 = s.r7 := rfl
@[simp] theorem withHooks_rlo (s : State) (v : List Word) : (s.withHooks v).rlo = s.rlo := rfl
@[simp] theorem withHooks_iff1 (s : State) (v : List Word) : (s.withHooks v).iff1 = s.iff1 := rfl
@[simp] theorem withHooks_iff2 (s : State) (v : List Word) : (s.withHooks v).iff2 = s.iff2 := rfl
@[simp] theorem withHooks_im (s : State) (v : List Word) : (s.withHooks v).im = s.im := rfl
@[simp] theorem withHooks_halted (s : State) (v : List Word) : (s.withHooks v).halted = s.halted := rfl
@[simp] theorem withHooks_cycles (s : State) (v : List Word) : (s.withHooks v).cycles = s.cycles := rfl
@[simp] theorem withHooks_throttle (s : State) (v : List Word) : (s.withHooks v).throttle = s.throttle := rfl
@[simp] theorem withHooks_horizon (s : State) (v : List Word) : (s.withHooks v).horizon = s.horizon := rfl
@[simp] theorem withHooks_mem (s : State) (v : List Word) : (s.withHooks v).mem = s.mem := rfl
@[simp] theorem withHooks_ports (s : State) (v : List Word) : (s.withHooks v).ports = s.ports := rfl
@[simp] theorem withHooks_hooks (s : State) (v : List Word) : (s.withHooks v).hooks = v := rfl
@[simp] theorem withHooks_draws (s : State) (v : List Word) : (s.withHooks v).draws = s.draws := rfl

/-! ## `withDraws` -/

@[simp] theorem withDraws_main (s : State) (v : Nat) : (s.withDraws v).main = s.main := rfl
@[simp] theorem withDraws_shadow (s : State) (v : Nat) : (s.withDraws v).shadow = s.shadow := rfl
@[simp] theorem withDraws_ix (s : State) (v : Nat) : (s.withDraws v).ix = s.ix := rfl
@[simp] theorem withDraws_iy (s : State) (v : Nat) : (s.withDraws v).iy = s.iy := rfl
@[simp] theorem withDraws_sp (s : State) (v : Nat) : (s.withDraws v).sp = s.sp := rfl
@[simp] theorem withDraws_pc (s : State) (v : Nat) : (s.withDraws v).pc = s.pc := rfl
@[simp] theorem withDraws_i (s : State) (v : Nat) : (s.withDraws v).i = s.i := rfl
@[simp] theorem withDraws_r7 (s : State) (v : Nat) : (s.withDraws v).r7 = s.r7 := rfl
@[simp] theorem withDraws_rlo (s : State) (v : Nat) : (s.withDraws v).rlo = s.rlo := rfl
@[simp] theorem withDraws_iff1 (s : State) (v : Nat) : (s.withDraws v).iff1 = s.iff1 := rfl
@[simp] theorem withDraws_iff2 (s : State) (v : Nat) : (s.withDraws v).iff2 = s.iff2 := rfl
@[simp] theorem withDraws_im (s : State) (v : Nat) : (s.withDraws v).im = s.im := rfl
@[simp] theorem withDraws_halted (s : State) (v : Nat) : (s.withDraws v).halted = s.halted := rfl
@[simp] theorem withDraws_cycles (s : State) (v : Nat) : (s.withDraws v).cycles = s.cycles := rfl
@[simp] theorem withDraws_throttle (s : State) (v : Nat) : (s.withDraws v).throttle = s.throttle := rfl
@[simp] theorem withDraws_horizon (s : State) (v : Nat) : (s.withDraws v).horizon = s.horizon := rfl
@[simp] theorem withDraws_mem (s : State) (v : Nat) : (s.withDraws v).mem = s.mem := rfl
@[simp] theorem withDraws_ports (s : State) (v : Nat) : (s.withDraws v).ports = s.ports := rfl
@[simp] theorem withDraws_hooks (s : State) (v : Nat) : (s.withDraws v).hooks = s.hooks := rfl
@[simp] theorem withDraws_draws (s : State) (v : Nat) : (s.withDraws v).draws = v := rfl

/-! ## `tick` -/

@[simp] theorem tick_main (s : State) (n : Nat) : (s.tick n).main = s.main := rfl
@[simp] theorem tick_shadow (s : State) (n : Nat) : (s.tick n).shadow = s.shadow := rfl
@[simp] theorem tick_ix (s : State) (n : Nat) : (s.tick n).ix = s.ix := rfl
@[simp] theorem tick_iy (s : State) (n : Nat) : (s.tick n).iy = s.iy := rfl
@[simp] theorem tick_sp (s : State) (n : Nat) : (s.tick n).sp = s.sp := rfl
@[simp] theorem tick_pc (s : State) (n : Nat) : (s.tick n).pc = s.pc := rfl
@[simp] theorem tick_i (s : State) (n : Nat) : (s.tick n).i = s.i := rfl
@[simp] theorem tick_r7 (s : State) (n : Nat) : (s.tick n).r7 = s.r7 := rfl
@[simp] theorem tick_rlo (s : State) (n : Nat) : (s.tick n).rlo = s.rlo := rfl
@[simp] theorem tick_iff1 (s : State) (n : Nat) : (s.tick n).iff1 = s.iff1 := rfl
@[simp] theorem tick_iff2 (s : State) (n : Nat) : (s.tick n).iff2 = s.iff2 := rfl
@[simp] theorem tick_im (s : State) (n : Nat) : (s.tick n).im = s.im := rfl
@[simp] theorem tick_halted (s : State) (n : Nat) : (s.tick n).halted = s.halted := rfl
@[simp] theorem tick_cycles (s : State) (n : Nat) : (s.tick n).cycles = s.cycles + n := rfl
@[simp] theorem tick_throttle (s : State) (n : Nat) : (s.tick n).throttle = s.throttle := rfl
@[simp] theorem tick_horizon (s : State) (n : Nat) : (s.tick n).horizon = s.horizon := rfl
@[simp] theorem tick_mem (s : State) (n : Nat) : (s.tick n).mem = s.mem := rfl
@[simp] theorem tick_ports (s : State) (n : Nat) : (s.tick n).ports = s.ports := rfl
@[simp] theorem tick_hooks (s : State) (n : Nat) : (s.tick n).hooks = s.hooks := rfl
@[simp] theorem tick_draws (s : State) (n : Nat) : (s.tick n).draws = s.draws := rfl

end Sys2Proof.Machine.State
end

