-- ==== Sys2Proof/Laws/Word.lean ====
section
/-! SUPPORT. Laws of the word type: halves, concatenation, and addresses near each other. -/

namespace Sys2Proof

theorem toNat_hiByte (w : Word) : (hiByte w).toNat = w.toNat / 256 := by
  simp [hiByte, Nat.shiftRight_eq_div_pow]; omega

theorem toNat_loByte (w : Word) : (loByte w).toNat = w.toNat % 256 := by simp [loByte]

theorem toNat_mkWord (hi lo : Byte) : (mkWord hi lo).toNat = hi.toNat * 256 + lo.toNat := by
  have := lo.isLt
  rw [mkWord, BitVec.toNat_append, Nat.shiftLeft_eq, Nat.mul_comm, ← Nat.two_pow_add_eq_or_of_lt this]

@[simp] theorem hiByte_mkWord (hi lo : Byte) : hiByte (mkWord hi lo) = hi := by
  apply BitVec.eq_of_toNat_eq
  rw [toNat_hiByte, toNat_mkWord]; omega

@[simp] theorem loByte_mkWord (hi lo : Byte) : loByte (mkWord hi lo) = lo := by
  apply BitVec.eq_of_toNat_eq
  rw [toNat_loByte, toNat_mkWord]; omega

@[simp] theorem mkWord_hiByte_loByte (w : Word) : mkWord (hiByte w) (loByte w) = w := by
  apply BitVec.eq_of_toNat_eq
  rw [toNat_mkWord, toNat_hiByte, toNat_loByte]; omega

theorem sub_two_add_one (a : Word) : a - 2 + 1 = a - 1 := by bv_omega

theorem sub_two_add_two (a : Word) : a - 2 + 2 = a := by bv_omega

theorem sub_one_add_one (a : Word) : a - 1 + 1 = a := by bv_omega

/-- `sub_two_add_one` with the literals as `simp` writes them. -/
@[simp] theorem sub_two_add_one_lit (a : Word) : a - 2#16 + 1#16 = a - 1#16 := sub_two_add_one a

/-- `sub_two_add_two` with the literals as `simp` writes them. -/
@[simp] theorem sub_two_add_two_lit (a : Word) : a - 2#16 + 2#16 = a := sub_two_add_two a

/-- `sub_one_add_one` with the literals as `simp` writes them. -/
@[simp] theorem sub_one_add_one_lit (a : Word) : a - 1#16 + 1#16 = a := sub_one_add_one a

theorem add_one_ne (a : Word) : a + 1 ≠ a := by bv_omega

theorem ne_add_one (a : Word) : a ≠ a + 1 := by bv_omega

theorem sub_one_ne_sub_two (a : Word) : a - 1 ≠ a - 2 := by bv_omega

theorem toNat_inj_ne {a b : Word} (h : a ≠ b) : a.toNat ≠ b.toNat := fun e => h (BitVec.eq_of_toNat_eq e)

end Sys2Proof
end

