-- ==== Sys2Proof/Laws/Memory.lean ====
section
/-! SUPPORT. The laws of memory: every write keeps the canonical form (log entry 1), a read after a write to the same address
gives the value written, and a write leaves every other address alone. -/

namespace Sys2Proof.Machine

/-! ## The list of cells -/

theorem Memory.wfFrom_mono {lo lo' : Nat} (h : lo' ≤ lo) {m : Memory} (hm : Memory.wfFrom lo m = true) :
    Memory.wfFrom lo' m = true := by
  cases m with
  | nil => rfl
  | cons c m => 
    simp only [Memory.wfFrom, Bool.and_eq_true, decide_eq_true_eq] at hm ⊢
    exact ⟨⟨⟨by omega, hm.1.1.2⟩, hm.1.2⟩, hm.2⟩

/-- Below the first listed address memory is blank. -/
theorem Memory.lookup_below {lo a : Nat} {m : Memory} (hm : Memory.wfFrom lo m = true) (h : a < lo) :
    Memory.lookup m a = Memory.blank := by
  induction m generalizing lo with
  | nil => rfl
  | cons c m ih =>
    simp only [Memory.wfFrom, Bool.and_eq_true, decide_eq_true_eq] at hm
    simp only [Memory.lookup]
    rw [if_neg (by omega)]
    exact ih hm.2 (by omega)

theorem Memory.store_wfFrom {lo a : Nat} {m : Memory} (v : Byte) (hm : Memory.wfFrom lo m = true) (hlo : lo ≤ a)
    (ha : a < 65536) : Memory.wfFrom lo (Memory.store m a v) = true := by
  induction m generalizing lo with
  | nil =>
    simp only [Memory.store]
    split
    · rfl
    · rename_i hv; simp [Memory.wfFrom, hlo, ha, hv]
  | cons c m ih =>
    simp only [Memory.wfFrom, Bool.and_eq_true, decide_eq_true_eq] at hm
    simp only [Memory.store]
    split
    · split
      · simp only [Memory.wfFrom, Bool.and_eq_true, decide_eq_true_eq]; exact hm
      · rename_i hv
        have : Memory.wfFrom (a + 1) (c :: m) = true := by
          simp only [Memory.wfFrom, Bool.and_eq_true, decide_eq_true_eq]; exact ⟨⟨⟨by omega, hm.1.1.2⟩, hm.1.2⟩, hm.2⟩
        simp only [Memory.wfFrom, Bool.and_eq_true, decide_eq_true_eq] at this ⊢
        exact ⟨⟨⟨hlo, ha⟩, by simpa using hv⟩, this⟩
    · split
      · rename_i h
        subst h
        split
        · exact Memory.wfFrom_mono (by omega) hm.2
        · rename_i hv
          simp only [Memory.wfFrom, Bool.and_eq_true, decide_eq_true_eq]
          exact ⟨⟨⟨hlo, ha⟩, by simpa using hv⟩, hm.2⟩
      · simp only [Memory.wfFrom, Bool.and_eq_true, decide_eq_true_eq]
        exact ⟨hm.1, ih hm.2 (by omega)⟩

/-- A write inside the 16-bit space keeps the canonical form. -/
theorem Memory.store_wf {a : Nat} {m : Memory} (v : Byte) (hm : m.wf = true) (ha : a < 65536) :
    (Memory.store m a v).wf = true := Memory.store_wfFrom v hm (Nat.zero_le a) ha

theorem Memory.lookup_store_same_from {lo a : Nat} {m : Memory} (v : Byte) (hm : Memory.wfFrom lo m = true) :
    Memory.lookup (Memory.store m a v) a = v := by
  induction m generalizing lo with
  | nil => simp only [Memory.store]; split <;> simp_all [Memory.lookup]
  | cons c m ih =>
    have hm' := hm
    simp only [Memory.wfFrom, Bool.and_eq_true, decide_eq_true_eq] at hm
    simp only [Memory.store]
    split
    · split
      · rename_i h hv
        rw [hv]
        simp only [Memory.lookup]
        rw [if_neg (by omega)]
        exact Memory.lookup_below hm.2 (by omega)
      · simp [Memory.lookup]
    · split
      · rename_i h
        subst h
        split
        · rename_i hv; rw [hv]; exact Memory.lookup_below hm.2 (by omega)
        · simp [Memory.lookup]
      · rename_i h
        simp only [Memory.lookup, if_neg h]
        exact ih hm.2

/-- A read after a write to the same address gives the value written (R82). -/
theorem Memory.lookup_store_same {a : Nat} {m : Memory} (v : Byte) (hm : m.wf = true) :
    Memory.lookup (Memory.store m a v) a = v := Memory.lookup_store_same_from v hm

/-- A write leaves every other address alone. -/
theorem Memory.lookup_store_other {a b : Nat} (m : Memory) (v : Byte) (h : b ≠ a) :
    Memory.lookup (Memory.store m a v) b = Memory.lookup m b := by
  induction m with
  | nil => simp only [Memory.store]; split <;> simp [Memory.lookup, h]
  | cons c m ih =>
    simp only [Memory.store]
    split
    · split <;> simp [Memory.lookup, h]
    · split
      · rename_i h'; subst h'; split <;> simp [Memory.lookup, h]
      · simp only [Memory.lookup, ih]

/-! ## The bus -/

theorem State.readByte_writeByte_same {s : State} (a : Word) (v : Byte) (h : s.mem.wf = true) :
    (s.writeByte a v).readByte a = v := Memory.lookup_store_same v h

theorem State.readByte_writeByte_other (s : State) {a b : Word} (v : Byte) (h : b ≠ a) :
    (s.writeByte a v).readByte b = s.readByte b := Memory.lookup_store_other s.mem v (toNat_inj_ne h)

theorem State.writeByte_wf {s : State} (a : Word) (v : Byte) (h : s.mem.wf = true) : (s.writeByte a v).mem.wf = true :=
  Memory.store_wf v h a.isLt

theorem State.writeWord_wf {s : State} (a v : Word) (h : s.mem.wf = true) : (s.writeWord a v).mem.wf = true :=
  State.writeByte_wf _ _ (State.writeByte_wf _ _ h)

theorem State.push_wf {s : State} (v : Word) (h : s.mem.wf = true) : (s.push v).mem.wf = true :=
  State.writeWord_wf _ _ h

/-- The low byte of a word store (R74). -/
theorem State.readByte_writeWord_low {s : State} (a v : Word) (h : s.mem.wf = true) :
    (s.writeWord a v).readByte a = loByte v := by
  unfold State.writeWord
  rw [State.readByte_writeByte_other _ _ (ne_add_one a), State.readByte_writeByte_same _ _ h]

/-- The high byte of a word store (R74, R77). -/
theorem State.readByte_writeWord_high {s : State} (a v : Word) (h : s.mem.wf = true) :
    (s.writeWord a v).readByte (a + 1) = hiByte v :=
  State.readByte_writeByte_same _ _ (State.writeByte_wf _ _ h)

theorem State.readByte_writeWord_other (s : State) {a b : Word} (v : Word) (h : b ≠ a) (h' : b ≠ a + 1) :
    (s.writeWord a v).readByte b = s.readByte b := by
  unfold State.writeWord
  rw [State.readByte_writeByte_other _ _ h', State.readByte_writeByte_other _ _ h]

/-- A word read gives back the word written (R74, R82). -/
theorem State.readWord_writeWord {s : State} (a v : Word) (h : s.mem.wf = true) : (s.writeWord a v).readWord a = v := by
  unfold State.readWord
  rw [State.readByte_writeWord_low _ _ h, State.readByte_writeWord_high _ _ h, mkWord_hiByte_loByte]

theorem State.writeBytes_wf {s : State} (a : Word) (vs : List Byte) (h : s.mem.wf = true) :
    (s.writeBytes a vs).mem.wf = true := by
  induction vs generalizing s a with
  | nil => exact h
  | cons v vs ih => exact ih _ (State.writeByte_wf _ _ h)

end Sys2Proof.Machine
end

