-- ==== Sys2Proof/Laws/Registers.lean ====
section
/-! SUPPORT. Reading a register after writing one (10_state.md R31, R34, R38). -/

namespace Sys2Proof.Machine

/-! ## The 8-bit registers -/

@[simp] theorem State.reg_a (s : State) : s.reg .a = s.main.a := rfl

@[simp] theorem State.reg_setReg_same (s : State) (r : Reg8) (v : Byte) : (s.setReg r v).reg r = v := by cases r <;> rfl

theorem State.reg_setReg_other (s : State) {r q : Reg8} (v : Byte) (h : q ≠ r) : (s.setReg r v).reg q = s.reg q := by
  cases r <;> cases q <;> first | rfl | exact absurd rfl h

@[simp] theorem State.f_setReg (s : State) (r : Reg8) (v : Byte) : (s.setReg r v).main.f = s.main.f := by cases r <;> rfl

@[simp] theorem State.reg_setF (s : State) (v : Byte) (r : Reg8) : (s.setF v).reg r = s.reg r := by cases r <;> rfl

@[simp] theorem State.f_setF (s : State) (v : Byte) : (s.setF v).main.f = v := rfl

@[simp] theorem State.reg_setAF_other (s : State) (af : Byte × Byte) {r : Reg8} (h : r ≠ .a) :
    (s.setAF af).reg r = s.reg r := by
  cases r <;> first | rfl | exact absurd rfl h

/-! ## The pairs -/

@[simp] theorem State.bc_setBc (s : State) (w : Word) : (s.setBc w).bc = w := by simp [State.bc, State.setBc]

@[simp] theorem State.de_setDe (s : State) (w : Word) : (s.setDe w).de = w := by simp [State.de, State.setDe]

@[simp] theorem State.hl_setHl (s : State) (w : Word) : (s.setHl w).hl = w := by simp [State.hl, State.setHl]

@[simp] theorem State.af_setAf (s : State) (w : Word) : (s.setAf w).af = w := by simp [State.af, State.setAf]

@[simp] theorem State.pair_setPair (s : State) (rp : RegPair) (w : Word) : (s.setPair rp w).pair rp = w := by
  cases rp <;> simp [State.pair, State.setPair]

@[simp] theorem State.stackPair_setStackPair (s : State) (qq : StackPair) (w : Word) :
    (s.setStackPair qq w).stackPair qq = w := by
  cases qq <;> simp [State.stackPair, State.setStackPair]

/-! ## The index registers and R -/

@[simp] theorem State.idx_setIdx (s : State) (x : Idx) (w : Word) : (s.setIdx x w).idx x = w := by cases x <;> rfl

@[simp] theorem State.xh_setXh (s : State) (x : Idx) (v : Byte) : (s.setXh x v).xh x = v := by
  simp [State.xh, State.setXh]

@[simp] theorem State.xl_setXh (s : State) (x : Idx) (v : Byte) : (s.setXh x v).xl x = s.xl x := by
  simp [State.xl, State.setXh]

@[simp] theorem State.xl_setXl (s : State) (x : Idx) (v : Byte) : (s.setXl x v).xl x = v := by
  simp [State.xl, State.setXl]

@[simp] theorem State.xh_setXl (s : State) (x : Idx) (v : Byte) : (s.setXl x v).xh x = s.xh x := by
  simp [State.xh, State.setXl]

/-- A byte is its bit 7 above its other bits. -/
theorem bit7_append_low7 : ∀ v : Byte, BitVec.ofBool (v.getLsbD 7) ++ v.extractLsb' 0 7 = v := by decide

@[simp] theorem State.refresh_setRefresh (s : State) (v : Byte) : (s.setRefresh v).refresh = v :=
  bit7_append_low7 v

/-! ## Memory does not see registers -/

@[simp] theorem State.readByte_withMain (s : State) (k : Bank) (a : Word) : (s.withMain k).readByte a = s.readByte a := rfl

@[simp] theorem State.readByte_setReg (s : State) (r : Reg8) (v : Byte) (a : Word) :
    (s.setReg r v).readByte a = s.readByte a := rfl

@[simp] theorem State.readByte_setF (s : State) (v : Byte) (a : Word) : (s.setF v).readByte a = s.readByte a := rfl

@[simp] theorem State.readByte_setIdx (s : State) (x : Idx) (v : Word) (a : Word) :
    (s.setIdx x v).readByte a = s.readByte a := by cases x <;> rfl

@[simp] theorem State.readByte_tick (s : State) (n : Nat) (a : Word) : (s.tick n).readByte a = s.readByte a := rfl

/-! ## Registers do not see memory -/

@[simp] theorem State.reg_writeByte (s : State) (a : Word) (v : Byte) (r : Reg8) : (s.writeByte a v).reg r = s.reg r := rfl

@[simp] theorem State.reg_tick (s : State) (n : Nat) (r : Reg8) : (s.tick n).reg r = s.reg r := rfl

end Sys2Proof.Machine
end

