-- ==== Sys2Proof/Laws/Frame.lean ====
section
/-! SUPPORT. The frame of each shared operation: all it can change. An instruction's frame is put together from these with
`Frame.trans` and `Frame.mono`. -/

namespace Sys2Proof.Machine

theorem Frame.refl (s : State) : Frame [] [] s s := ⟨fun p _ => by cases p <;> rfl, fun _ _ => rfl⟩

theorem Part.same_trans {s t u : State} {p : Part} (h : p.same s t) (h' : p.same t u) : p.same s u := by
  cases p <;> exact Eq.trans h' h

theorem Frame.trans {c c' : List Part} {m m' : List Word} {s t u : State} (h : Frame c m s t) (h' : Frame c' m' t u) :
    Frame (c ++ c') (m ++ m') s u := by
  constructor
  · intro p hp
    rw [List.mem_append, not_or] at hp
    exact Part.same_trans (h.1 p hp.1) (h'.1 p hp.2)
  · intro a ha
    rw [List.mem_append, not_or] at ha
    rw [h'.2 a ha.2, h.2 a ha.1]

theorem Frame.mono {c c' : List Part} {m m' : List Word} {s t : State} (h : Frame c m s t) (hc : ∀ p ∈ c, p ∈ c')
    (hm : ∀ a ∈ m, a ∈ m') : Frame c' m' s t :=
  ⟨fun p hp => h.1 p (fun q => hp (hc p q)), fun a ha => h.2 a (fun q => ha (hm a q))⟩

/-! ## Registers -/

theorem Frame.tick (s : State) (n : Nat) : Frame [] [] s (s.tick n) := ⟨fun p _ => by cases p <;> rfl, fun _ _ => rfl⟩

theorem Frame.setReg (s : State) (r : Reg8) (v : Byte) : Frame [.reg r] [] s (s.setReg r v) := by
  refine ⟨fun p hp => ?_, fun _ _ => rfl⟩
  cases p with
  | reg q => exact State.reg_setReg_other s v (fun h => hp (by simp [h]))
  | f => exact State.f_setReg s r v
  | idx x => cases x <;> rfl
  | _ => rfl

theorem Frame.setA (s : State) (v : Byte) : Frame [.reg .a] [] s (s.setA v) := Frame.setReg s .a v

theorem Frame.setF (s : State) (v : Byte) : Frame [.f] [] s (s.setF v) := by
  refine ⟨fun p hp => ?_, fun _ _ => rfl⟩
  cases p with
  | reg q => exact State.reg_setF s v q
  | f => exact absurd (List.mem_singleton.2 rfl) hp
  | idx x => cases x <;> rfl
  | _ => rfl

theorem Frame.setAF (s : State) (af : Byte × Byte) : Frame [.reg .a, .f] [] s (s.setAF af) :=
  (Frame.setA s af.1).trans (Frame.setF _ af.2)

theorem Frame.setBc (s : State) (w : Word) : Frame [.reg .b, .reg .c] [] s (s.setBc w) :=
  (Frame.setReg s .b (hiByte w)).trans (Frame.setReg _ .c (loByte w))

theorem Frame.setDe (s : State) (w : Word) : Frame [.reg .d, .reg .e] [] s (s.setDe w) :=
  (Frame.setReg s .d (hiByte w)).trans (Frame.setReg _ .e (loByte w))

theorem Frame.setHl (s : State) (w : Word) : Frame [.reg .h, .reg .l] [] s (s.setHl w) :=
  (Frame.setReg s .h (hiByte w)).trans (Frame.setReg _ .l (loByte w))

theorem Frame.setAf (s : State) (w : Word) : Frame [.reg .a, .f] [] s (s.setAf w) :=
  (Frame.setReg s .a (hiByte w)).trans (Frame.setF _ (loByte w))

theorem Frame.withSp (s : State) (w : Word) : Frame [.sp] [] s (s.withSp w) := by
  refine ⟨fun p hp => ?_, fun _ _ => rfl⟩
  cases p with
  | sp => exact absurd (List.mem_singleton.2 rfl) hp
  | idx x => cases x <;> rfl
  | _ => rfl

theorem Frame.withPc (s : State) (w : Word) : Frame [.pc] [] s (s.withPc w) := by
  refine ⟨fun p hp => ?_, fun _ _ => rfl⟩
  cases p with
  | pc => exact absurd (List.mem_singleton.2 rfl) hp
  | idx x => cases x <;> rfl
  | _ => rfl

theorem Frame.setIdx (s : State) (x : Idx) (w : Word) : Frame [.idx x] [] s (s.setIdx x w) := by
  refine ⟨fun p hp => ?_, fun _ _ => by cases x <;> rfl⟩
  cases p with
  | idx y =>
    cases x <;> cases y <;> first | rfl | exact absurd (List.mem_singleton.2 rfl) hp
  | _ => cases x <;> rfl

theorem Frame.setXh (s : State) (x : Idx) (v : Byte) : Frame [.idx x] [] s (s.setXh x v) := Frame.setIdx s x _

theorem Frame.setXl (s : State) (x : Idx) (v : Byte) : Frame [.idx x] [] s (s.setXl x v) := Frame.setIdx s x _

theorem Frame.setPair (s : State) (rp : RegPair) (w : Word) : Frame (pairParts rp) [] s (s.setPair rp w) := by
  cases rp
  · exact Frame.setBc s w
  · exact Frame.setDe s w
  · exact Frame.setHl s w
  · exact Frame.withSp s w

theorem Frame.setStackPair (s : State) (qq : StackPair) (w : Word) : Frame (stackPairParts qq) [] s (s.setStackPair qq w) := by
  cases qq
  · exact Frame.setBc s w
  · exact Frame.setDe s w
  · exact Frame.setHl s w
  · exact Frame.setAf s w

/-! ## Memory, the stack and the ports -/

theorem Frame.writeByte (s : State) (a : Word) (v : Byte) : Frame [] [a] s (s.writeByte a v) := by
  refine ⟨fun p _ => by cases p <;> rfl, fun b hb => ?_⟩
  exact State.readByte_writeByte_other s v (fun h => hb (by simp [h]))

theorem Frame.writeWord (s : State) (a v : Word) : Frame [] [a, a + 1] s (s.writeWord a v) :=
  (Frame.writeByte s a _).trans (Frame.writeByte _ (a + 1) _)

theorem Frame.push (s : State) (v : Word) : Frame [.sp] [s.sp - 2, s.sp - 1] s (s.push v) := by
  have h := (Frame.withSp s (s.sp - 2)).trans (Frame.writeWord (s.withSp (s.sp - 2)) (s.sp - 2) v)
  rw [sub_two_add_one] at h
  exact h

theorem Frame.dropTop (s : State) : Frame [.sp] [] s s.dropTop := Frame.withSp s _

theorem Frame.returnPc (s : State) : Frame [.sp, .pc] [] s s.returnPc := (Frame.dropTop s).trans (Frame.withPc _ _)

theorem Frame.jumpRelative (s : State) (e : Byte) : Frame [.pc] [] s (s.jumpRelative e) := Frame.withPc s _

theorem Frame.drawn (s : State) : Frame [.draws] [] s s.drawn := by
  refine ⟨fun p hp => ?_, fun _ _ => rfl⟩
  cases p with
  | draws => exact absurd (List.mem_singleton.2 rfl) hp
  | idx x => cases x <;> rfl
  | _ => rfl

theorem Frame.portWrite (s : State) (p : Word) (v : Byte) : Frame [.ports] [] s (s.portWrite p v) := by
  refine ⟨fun q hq => ?_, fun _ _ => rfl⟩
  cases q with
  | ports => exact absurd (List.mem_singleton.2 rfl) hq
  | idx x => cases x <;> rfl
  | _ => rfl

/-! ## Operands -/

/-- The part a write to an operand changes. -/
def Operand.parts : Operand → List Part
  | .reg r => [.reg r]
  | .xh x | .xl x => [.idx x]
  | .mem _ => []

/-- The address a write to an operand stores to. -/
def Operand.stored : Operand → List Word
  | .reg _ | .xh _ | .xl _ => []
  | .mem a => [a]

theorem Frame.writeOp (s : State) (o : Operand) (v : Byte) : Frame o.parts o.stored s (s.writeOp o v) := by
  cases o with
  | reg r => exact Frame.setReg s r v
  | xh x => exact Frame.setXh s x v
  | xl x => exact Frame.setXl s x v
  | mem a => exact Frame.writeByte s a v

theorem Frame.incOp (s : State) (o : Operand) : Frame (.f :: o.parts) o.stored s (s.incOp o) :=
  (Frame.setF s _).trans (Frame.writeOp _ o _)

theorem Frame.decOp (s : State) (o : Operand) : Frame (.f :: o.parts) o.stored s (s.decOp o) :=
  (Frame.setF s _).trans (Frame.writeOp _ o _)

theorem Frame.rotOp (s : State) (op : RotOp) (o : Operand) : Frame (.f :: o.parts) o.stored s (s.rotOp op o) :=
  (Frame.setF s _).trans (Frame.writeOp _ o _)

theorem Frame.setOp (s : State) (b : Index8) (o : Operand) : Frame o.parts o.stored s (s.setOp b o) :=
  Frame.writeOp s o _

theorem Frame.resOp (s : State) (b : Index8) (o : Operand) : Frame o.parts o.stored s (s.resOp b o) :=
  Frame.writeOp s o _

theorem Frame.copyTo (s : State) (copy : Option Reg8) (v : Byte) : Frame (copy.toList.map Part.reg) [] s (s.copyTo copy v) := by
  cases copy with
  | none => exact Frame.refl s
  | some r => exact Frame.setReg s r v

theorem Frame.xcRot (s : State) (op : RotOp) (a : Word) (copy : Option Reg8) :
    Frame (.f :: copy.toList.map Part.reg) [a] s (s.xcRot op a copy) :=
  ((Frame.setF s _).trans (Frame.writeByte _ a _)).trans (Frame.copyTo _ copy _)

theorem Frame.xcRes (s : State) (b : Index8) (a : Word) (copy : Option Reg8) :
    Frame (copy.toList.map Part.reg) [a] s (s.xcRes b a copy) :=
  (Frame.writeByte s a _).trans (Frame.copyTo _ copy _)

theorem Frame.xcSet (s : State) (b : Index8) (a : Word) (copy : Option Reg8) :
    Frame (copy.toList.map Part.reg) [a] s (s.xcSet b a copy) :=
  (Frame.writeByte s a _).trans (Frame.copyTo _ copy _)

theorem Frame.xcBit (s : State) (b : Index8) (a : Word) : Frame [.f] [] s (s.xcBit b a) := Frame.setF s _

/-! ## Block elements -/

theorem Frame.blockLd (s : State) (δ : Word) :
    Frame [.reg .h, .reg .l, .reg .d, .reg .e, .reg .b, .reg .c, .f] [s.de] s (s.blockLd δ) :=
  ((((Frame.writeByte s s.de _).trans (Frame.setHl _ _)).trans (Frame.setDe _ _)).trans (Frame.setBc _ _)).trans
    (Frame.setF _ _)

theorem Frame.blockCp (s : State) (δ : Word) :
    Frame [.reg .h, .reg .l, .reg .b, .reg .c, .f] [] s (s.blockCp δ) :=
  ((Frame.setHl s _).trans (Frame.setBc _ _)).trans (Frame.setF _ _)

theorem Frame.blockIn (s : State) (δ : Word) (γ : Byte) :
    Frame [.draws, .reg .b, .reg .h, .reg .l, .f] [s.hl] s (s.blockIn δ γ) :=
  ((((Frame.drawn s).trans (Frame.writeByte _ s.hl _)).trans (Frame.setReg _ .b _)).trans (Frame.setHl _ _)).trans
    (Frame.setF _ _)

theorem Frame.blockOut (s : State) (δ : Word) :
    Frame [.reg .b, .ports, .reg .h, .reg .l, .f] [] s (s.blockOut δ) :=
  (((Frame.setReg s .b _).trans (Frame.portWrite _ _ _)).trans (Frame.setHl _ _)).trans (Frame.setF _ _)

/-! ## The end of an instruction -/

/-- An instruction that ends with `done` runs, with the frame of its effect. -/
theorem Runs.ofDone {i : Instr} {s t : State} {cost : Nat} {c : List Part} {m : List Word} (h : exec i s = done cost t)
    (hc : t.cycles = s.cycles) (hf : Frame c m s t) : Runs i s (t.tick cost) cost c m := by
  refine ⟨h, by simp [hc], ?_⟩
  have := hf.trans (Frame.tick t cost)
  simpa using this

end Sys2Proof.Machine
end

