-- ==== Sys2Proof/Laws/Interrupts.lean ====
section
/-! SUPPORT. The stack, the end of a block instruction, and taking an interrupt: what each operation does, said once
(00_scope.md R19, 60_exceptions.md R433-R439). -/

namespace Sys2Proof.Machine

/-! ## The stack -/

theorem State.readByte_push_low {s : State} (v : Word) (h : s.mem.wf = true) : (s.push v).readByte (s.sp - 2) = loByte v :=
  State.readByte_writeWord_low (s := s.withSp (s.sp - 2)) _ _ h

theorem State.readByte_push_high {s : State} (v : Word) (h : s.mem.wf = true) : (s.push v).readByte (s.sp - 1) = hiByte v := by
  have := State.readByte_writeWord_high (s := s.withSp (s.sp - 2)) (s.sp - 2) v h
  rw [sub_two_add_one] at this
  exact this

/-- `Pop()` after `Push(v)` gives v back. -/
theorem State.top_push {s : State} (v : Word) (h : s.mem.wf = true) : (s.push v).top = v :=
  State.readWord_writeWord (s := s.withSp (s.sp - 2)) _ _ h

/-- `Pop()` after `Push(v)` gives SP back. -/
theorem State.sp_dropTop_push (s : State) (v : Word) : ((s.push v).dropTop).sp = s.sp := sub_two_add_two s.sp

/-! ## Frames of the fields an acceptance writes -/

theorem Frame.withIff1 (s : State) (v : Bool) : Frame [.iff1] [] s (s.withIff1 v) := by
  refine ⟨fun p hp => ?_, fun _ _ => rfl⟩
  cases p with
  | iff1 => exact absurd (List.mem_singleton.2 rfl) hp
  | idx x => cases x <;> rfl
  | _ => rfl

theorem Frame.withIff2 (s : State) (v : Bool) : Frame [.iff2] [] s (s.withIff2 v) := by
  refine ⟨fun p hp => ?_, fun _ _ => rfl⟩
  cases p with
  | iff2 => exact absurd (List.mem_singleton.2 rfl) hp
  | idx x => cases x <;> rfl
  | _ => rfl

theorem Frame.withHalted (s : State) (v : Bool) : Frame [.halted] [] s (s.withHalted v) := by
  refine ⟨fun p hp => ?_, fun _ _ => rfl⟩
  cases p with
  | halted => exact absurd (List.mem_singleton.2 rfl) hp
  | idx x => cases x <;> rfl
  | _ => rfl

theorem Frame.countRefresh (s : State) (n : Nat) : Frame [.rlo] [] s (s.countRefresh n) := by
  refine ⟨fun p hp => ?_, fun _ _ => rfl⟩
  cases p with
  | rlo => exact absurd (List.mem_singleton.2 rfl) hp
  | idx x => cases x <;> rfl
  | _ => rfl

/-! ## Entering a handler -/

theorem Frame.enterHandler (s : State) : Frame [.halted, .rlo, .sp] [s.sp - 2, s.sp - 1] s s.enterHandler :=
  ((Frame.withHalted s false).trans (Frame.countRefresh _ 1)).trans (Frame.push _ _)

@[simp] theorem State.enterHandler_sp (s : State) : s.enterHandler.sp = s.sp - 2 := rfl
@[simp] theorem State.enterHandler_pc (s : State) : s.enterHandler.pc = s.pc := rfl
@[simp] theorem State.enterHandler_rlo (s : State) : s.enterHandler.rlo = s.rlo + 1 := rfl
@[simp] theorem State.enterHandler_halted (s : State) : s.enterHandler.halted = false := rfl
@[simp] theorem State.enterHandler_main (s : State) : s.enterHandler.main = s.main := rfl
@[simp] theorem State.enterHandler_im (s : State) : s.enterHandler.im = s.im := rfl
@[simp] theorem State.enterHandler_i (s : State) : s.enterHandler.i = s.i := rfl
@[simp] theorem State.enterHandler_iff1 (s : State) : s.enterHandler.iff1 = s.iff1 := rfl
@[simp] theorem State.enterHandler_iff2 (s : State) : s.enterHandler.iff2 = s.iff2 := rfl
@[simp] theorem State.enterHandler_cycles (s : State) : s.enterHandler.cycles = s.cycles := rfl

theorem State.enterHandler_wf {s : State} (h : s.mem.wf = true) : s.enterHandler.mem.wf = true :=
  State.push_wf (s := (s.withHalted false).countRefresh 1) _ h

theorem State.readByte_enterHandler_low {s : State} (h : s.mem.wf = true) :
    s.enterHandler.readByte (s.sp - 2) = loByte s.pc :=
  State.readByte_push_low (s := (s.withHalted false).countRefresh 1) _ h

theorem State.readByte_enterHandler_high {s : State} (h : s.mem.wf = true) :
    s.enterHandler.readByte (s.sp - 1) = hiByte s.pc :=
  State.readByte_push_high (s := (s.withHalted false).countRefresh 1) _ h

theorem State.top_enterHandler {s : State} (h : s.mem.wf = true) : s.enterHandler.top = s.pc :=
  State.top_push (s := (s.withHalted false).countRefresh 1) _ h

/-! ## The maskable vector -/

theorem State.vector_im0 {s : State} (data : Byte) (h : s.im = 0) :
    s.vector data = (BitVec.setWidth 16 (data &&& 0x38), 13) := by rw [State.vector, if_pos h]

theorem State.vector_im1 {s : State} (data : Byte) (h : s.im = 1) : s.vector data = (0x0038, 13) := by
  rw [State.vector, if_neg (by rw [h]; decide), if_pos h]; rfl

theorem State.vector_im2 {s : State} (data : Byte) (h : s.im = 2) :
    s.vector data = (s.readWord (mkWord s.i data), 19) := by
  rw [State.vector, if_neg (by rw [h]; decide), if_neg (by rw [h]; decide)]

/-- The state in which a maskable acceptance picks its vector. -/
def State.maskableEntry (s : State) : State := ((s.withIff1 false).withIff2 false).enterHandler

@[simp] theorem State.maskableEntry_sp (s : State) : s.maskableEntry.sp = s.sp - 2 := by simp [State.maskableEntry]
@[simp] theorem State.maskableEntry_rlo (s : State) : s.maskableEntry.rlo = s.rlo + 1 := by simp [State.maskableEntry]
@[simp] theorem State.maskableEntry_halted (s : State) : s.maskableEntry.halted = false := by simp [State.maskableEntry]
@[simp] theorem State.maskableEntry_main (s : State) : s.maskableEntry.main = s.main := by simp [State.maskableEntry]
@[simp] theorem State.maskableEntry_im (s : State) : s.maskableEntry.im = s.im := by simp [State.maskableEntry]
@[simp] theorem State.maskableEntry_i (s : State) : s.maskableEntry.i = s.i := by simp [State.maskableEntry]
@[simp] theorem State.maskableEntry_iff1 (s : State) : s.maskableEntry.iff1 = false := by simp [State.maskableEntry]
@[simp] theorem State.maskableEntry_iff2 (s : State) : s.maskableEntry.iff2 = false := by simp [State.maskableEntry]
@[simp] theorem State.maskableEntry_cycles (s : State) : s.maskableEntry.cycles = s.cycles := by simp [State.maskableEntry]

theorem Frame.maskableEntry (s : State) :
    Frame [.iff1, .iff2, .halted, .rlo, .sp] [s.sp - 2, s.sp - 1] s s.maskableEntry :=
  ((Frame.withIff1 s false).trans (Frame.withIff2 _ false)).trans (Frame.enterHandler _)

theorem State.readByte_maskableEntry_low {s : State} (h : s.mem.wf = true) :
    s.maskableEntry.readByte (s.sp - 2) = loByte s.pc :=
  State.readByte_enterHandler_low (s := (s.withIff1 false).withIff2 false) h

theorem State.readByte_maskableEntry_high {s : State} (h : s.mem.wf = true) :
    s.maskableEntry.readByte (s.sp - 1) = hiByte s.pc :=
  State.readByte_enterHandler_high (s := (s.withIff1 false).withIff2 false) h

theorem State.top_maskableEntry {s : State} (h : s.mem.wf = true) : s.maskableEntry.top = s.pc :=
  State.top_enterHandler (s := (s.withIff1 false).withIff2 false) h

/-- A maskable acceptance that does not fault. -/
theorem acceptMaskable_done {s : State} {data : Byte} (h : s.im ≠ 3) (h0 : s.im = 0 → data &&& 0xC7 = 0xC7) :
    acceptMaskable data s =
      done (s.maskableEntry.vector data).2 (s.maskableEntry.withPc (s.maskableEntry.vector data).1) := by
  rw [acceptMaskable, if_neg h, if_neg (fun q => q.2 (h0 q.1))]; rfl

/-- If a maskable acceptance answers a next state, this is it. -/
theorem acceptMaskable_next {s t : State} {data : Byte} (h : acceptMaskable data s = .next t) :
    s.im ≠ 3 ∧ (s.im = 0 → data &&& 0xC7 = 0xC7)
      ∧ t = (s.maskableEntry.withPc (s.maskableEntry.vector data).1).tick (s.maskableEntry.vector data).2 := by
  unfold acceptMaskable at h
  split at h
  · cases h
  · split at h
    · cases h
    · rename_i h3 h0
      refine ⟨h3, fun q => Decidable.not_not.1 fun q' => h0 ⟨q, q'⟩, ?_⟩
      cases h; rfl

/-! ## The end of a block instruction -/

/-- A block instruction runs with the frame of its element and PC; again or not decides its cost and PC (R402). -/
theorem Runs.ofFinishBlock {i : Instr} {s t : State} {again : Bool} {c : List Part} {m : List Word}
    (h : exec i s = finishBlock again t) (hc : t.cycles = s.cycles) (hp : t.pc = s.pc) (hf : Frame c m s t) :
    ∃ u, Runs i s u (if again = true then 21 else 16) (c ++ [.pc]) m ∧ u.main = t.main ∧ u.mem = t.mem ∧ u.draws = t.draws
      ∧ u.ports = t.ports ∧ u.pc = if again = true then s.pc - 2 else s.pc := by
  cases again with
  | true =>
    refine ⟨_, Runs.ofDone h hc ((hf.trans (Frame.withPc _ _)).mono (by simp) (by simp)), rfl, rfl, rfl, rfl, ?_⟩
    show t.pc - 2 = _
    rw [hp]; rfl
  | false =>
    exact ⟨_, Runs.ofDone h hc (hf.mono (fun p hp => by simp [hp]) (by simp)), rfl, rfl, rfl, rfl, hp⟩

end Sys2Proof.Machine
end

