-- ==== Sys2Proof/Laws/PerInstr.lean ====
section
/-! SUPPORT. Encode, then decode, instruction by instruction (30_encoding.md R102, R103, R111-R122). -/

namespace Sys2Proof.Laws.RoundTrip

set_option maxRecDepth 10000

/-- The decoder reads a well-formed instruction's encoding as that instruction, whatever follows, and its length and opcode
fetches with it. -/
def Statement (i : Instr) : Prop :=
  i.wellFormed = true → ∀ rest : List Byte,
    decode (encode i ++ lookahead i ++ rest) = .ok ⟨i, (encode i).length, opcodeFetches i⟩

/-- What selects an ED no-op. -/
theorem select_edRows_hole : ∀ op : Byte, isEdHole op = true →
    (match select edRows op with | some (.whole i) => decide (i = .edNop op) | _ => false) = true := by decide

theorem nop : Statement .nop := fun _ _ => rfl

theorem ldRpNn (rp : RegPair) (nn : Word) : Statement (.ldRpNn rp nn) := by
  intro _ rest
  have e := congrArg (fun w => Except.ok (ε := DecodeError) (Decoded.mk (.ldRpNn rp w) 3 1)) (mkWord_hiByte_loByte nn)
  cases rp <;> exact e

theorem ldMBcA : Statement .ldMBcA := fun _ _ => rfl

theorem ldMDeA : Statement .ldMDeA := fun _ _ => rfl

theorem ldMNnHl (nn : Word) : Statement (.ldMNnHl nn) := by
  intro _ rest
  have e := congrArg (fun w => Except.ok (ε := DecodeError) (Decoded.mk (.ldMNnHl w) 3 1)) (mkWord_hiByte_loByte nn)
  exact e

theorem ldMNnA (nn : Word) : Statement (.ldMNnA nn) := by
  intro _ rest
  have e := congrArg (fun w => Except.ok (ε := DecodeError) (Decoded.mk (.ldMNnA w) 3 1)) (mkWord_hiByte_loByte nn)
  exact e

theorem incRp (rp : RegPair) : Statement (.incRp rp) := by
  intro _ rest
  cases rp <;> rfl

theorem incMHl : Statement .incMHl := fun _ _ => rfl

theorem decMHl : Statement .decMHl := fun _ _ => rfl

theorem ldMHlN (n : Byte) : Statement (.ldMHlN n) := fun _ _ => rfl

theorem incR (r : Reg8) : Statement (.incR r) := by
  intro _ rest
  cases r <;> rfl

theorem decR (r : Reg8) : Statement (.decR r) := by
  intro _ rest
  cases r <;> rfl

theorem ldRN (r : Reg8) (n : Byte) : Statement (.ldRN r n) := by
  intro _ rest
  cases r <;> rfl

theorem rlca : Statement .rlca := fun _ _ => rfl

theorem rrca : Statement .rrca := fun _ _ => rfl

theorem rla : Statement .rla := fun _ _ => rfl

theorem rra : Statement .rra := fun _ _ => rfl

theorem daa : Statement .daa := fun _ _ => rfl

theorem cpl : Statement .cpl := fun _ _ => rfl

theorem scf : Statement .scf := fun _ _ => rfl

theorem ccf : Statement .ccf := fun _ _ => rfl

theorem exAfAf : Statement .exAfAf := fun _ _ => rfl

theorem addHlRp (rp : RegPair) : Statement (.addHlRp rp) := by
  intro _ rest
  cases rp <;> rfl

theorem ldAMBc : Statement .ldAMBc := fun _ _ => rfl

theorem ldAMDe : Statement .ldAMDe := fun _ _ => rfl

theorem ldHlMNn (nn : Word) : Statement (.ldHlMNn nn) := by
  intro _ rest
  have e := congrArg (fun w => Except.ok (ε := DecodeError) (Decoded.mk (.ldHlMNn w) 3 1)) (mkWord_hiByte_loByte nn)
  exact e

theorem ldAMNn (nn : Word) : Statement (.ldAMNn nn) := by
  intro _ rest
  have e := congrArg (fun w => Except.ok (ε := DecodeError) (Decoded.mk (.ldAMNn w) 3 1)) (mkWord_hiByte_loByte nn)
  exact e

theorem decRp (rp : RegPair) : Statement (.decRp rp) := by
  intro _ rest
  cases rp <;> rfl

theorem djnz (e : Byte) : Statement (.djnz e) := fun _ _ => rfl

theorem jr (e : Byte) : Statement (.jr e) := fun _ _ => rfl

theorem jrCc (cc : Cond) (e : Byte) : Statement (.jrCc cc e) := by
  intro h rest
  cases cc <;> first | exact Bool.noConfusion h | rfl

theorem halt : Statement .halt := fun _ _ => rfl

theorem ldMHlR (q : Reg8) : Statement (.ldMHlR q) := by
  intro _ rest
  cases q <;> rfl

theorem ldRMHl (r : Reg8) : Statement (.ldRMHl r) := by
  intro _ rest
  cases r <;> rfl

theorem ldRR (r : Reg8) (q : Reg8) : Statement (.ldRR r q) := by
  intro _ rest
  cases r <;> cases q <;> rfl

theorem addAMHl : Statement .addAMHl := fun _ _ => rfl

theorem addAR (q : Reg8) : Statement (.addAR q) := by
  intro _ rest
  cases q <;> rfl

theorem addAN (n : Byte) : Statement (.addAN n) := fun _ _ => rfl

theorem adcAMHl : Statement .adcAMHl := fun _ _ => rfl

theorem adcAR (q : Reg8) : Statement (.adcAR q) := by
  intro _ rest
  cases q <;> rfl

theorem adcAN (n : Byte) : Statement (.adcAN n) := fun _ _ => rfl

theorem subMHl : Statement .subMHl := fun _ _ => rfl

theorem subR (q : Reg8) : Statement (.subR q) := by
  intro _ rest
  cases q <;> rfl

theorem subN (n : Byte) : Statement (.subN n) := fun _ _ => rfl

theorem sbcAMHl : Statement .sbcAMHl := fun _ _ => rfl

theorem sbcAR (q : Reg8) : Statement (.sbcAR q) := by
  intro _ rest
  cases q <;> rfl

theorem sbcAN (n : Byte) : Statement (.sbcAN n) := fun _ _ => rfl

theorem andMHl : Statement .andMHl := fun _ _ => rfl

theorem andR (q : Reg8) : Statement (.andR q) := by
  intro _ rest
  cases q <;> rfl

theorem andN (n : Byte) : Statement (.andN n) := fun _ _ => rfl

theorem xorMHl : Statement .xorMHl := fun _ _ => rfl

theorem xorR (q : Reg8) : Statement (.xorR q) := by
  intro _ rest
  cases q <;> rfl

theorem xorN (n : Byte) : Statement (.xorN n) := fun _ _ => rfl

theorem orMHl : Statement .orMHl := fun _ _ => rfl

theorem orR (q : Reg8) : Statement (.orR q) := by
  intro _ rest
  cases q <;> rfl

theorem orN (n : Byte) : Statement (.orN n) := fun _ _ => rfl

theorem cpMHl : Statement .cpMHl := fun _ _ => rfl

theorem cpR (q : Reg8) : Statement (.cpR q) := by
  intro _ rest
  cases q <;> rfl

theorem cpN (n : Byte) : Statement (.cpN n) := fun _ _ => rfl

theorem retCc (cc : Cond) : Statement (.retCc cc) := by
  intro _ rest
  cases cc <;> rfl

theorem popQq (qq : StackPair) : Statement (.popQq qq) := by
  intro _ rest
  cases qq <;> rfl

theorem jpCcNn (cc : Cond) (nn : Word) : Statement (.jpCcNn cc nn) := by
  intro _ rest
  have e := congrArg (fun w => Except.ok (ε := DecodeError) (Decoded.mk (.jpCcNn cc w) 3 1)) (mkWord_hiByte_loByte nn)
  cases cc <;> exact e

theorem jpNn (nn : Word) : Statement (.jpNn nn) := by
  intro _ rest
  have e := congrArg (fun w => Except.ok (ε := DecodeError) (Decoded.mk (.jpNn w) 3 1)) (mkWord_hiByte_loByte nn)
  exact e

theorem callCcNn (cc : Cond) (nn : Word) : Statement (.callCcNn cc nn) := by
  intro _ rest
  have e := congrArg (fun w => Except.ok (ε := DecodeError) (Decoded.mk (.callCcNn cc w) 3 1)) (mkWord_hiByte_loByte nn)
  cases cc <;> exact e

theorem pushQq (qq : StackPair) : Statement (.pushQq qq) := by
  intro _ rest
  cases qq <;> rfl

theorem rst (y : Index8) : Statement (.rst y) := by
  intro _ rest
  cases y <;> rfl

theorem ret : Statement .ret := fun _ _ => rfl

theorem callNn (nn : Word) : Statement (.callNn nn) := by
  intro _ rest
  have e := congrArg (fun w => Except.ok (ε := DecodeError) (Decoded.mk (.callNn w) 3 1)) (mkWord_hiByte_loByte nn)
  exact e

theorem outNA (n : Byte) : Statement (.outNA n) := fun _ _ => rfl

theorem exx : Statement .exx := fun _ _ => rfl

theorem inAN (n : Byte) : Statement (.inAN n) := fun _ _ => rfl

theorem exMSpHl : Statement .exMSpHl := fun _ _ => rfl

theorem jpHl : Statement .jpHl := fun _ _ => rfl

theorem exDeHl : Statement .exDeHl := fun _ _ => rfl

theorem di : Statement .di := fun _ _ => rfl

theorem ldSpHl : Statement .ldSpHl := fun _ _ => rfl

theorem ei : Statement .ei := fun _ _ => rfl

theorem rlcMHl : Statement .rlcMHl := fun _ _ => rfl

theorem rlcR (q : Reg8) : Statement (.rlcR q) := by
  intro _ rest
  cases q <;> rfl

theorem rrcMHl : Statement .rrcMHl := fun _ _ => rfl

theorem rrcR (q : Reg8) : Statement (.rrcR q) := by
  intro _ rest
  cases q <;> rfl

theorem rlMHl : Statement .rlMHl := fun _ _ => rfl

theorem rlR (q : Reg8) : Statement (.rlR q) := by
  intro _ rest
  cases q <;> rfl

theorem rrMHl : Statement .rrMHl := fun _ _ => rfl

theorem rrR (q : Reg8) : Statement (.rrR q) := by
  intro _ rest
  cases q <;> rfl

theorem slaMHl : Statement .slaMHl := fun _ _ => rfl

theorem slaR (q : Reg8) : Statement (.slaR q) := by
  intro _ rest
  cases q <;> rfl

theorem sraMHl : Statement .sraMHl := fun _ _ => rfl

theorem sraR (q : Reg8) : Statement (.sraR q) := by
  intro _ rest
  cases q <;> rfl

theorem sllMHl : Statement .sllMHl := fun _ _ => rfl

theorem sllR (q : Reg8) : Statement (.sllR q) := by
  intro _ rest
  cases q <;> rfl

theorem srlMHl : Statement .srlMHl := fun _ _ => rfl

theorem srlR (q : Reg8) : Statement (.srlR q) := by
  intro _ rest
  cases q <;> rfl

theorem bitMHl (b : Index8) : Statement (.bitMHl b) := by
  intro _ rest
  cases b <;> rfl

theorem bitR (b : Index8) (q : Reg8) : Statement (.bitR b q) := by
  intro _ rest
  cases b <;> cases q <;> rfl

theorem resMHl (b : Index8) : Statement (.resMHl b) := by
  intro _ rest
  cases b <;> rfl

theorem resR (b : Index8) (q : Reg8) : Statement (.resR b q) := by
  intro _ rest
  cases b <;> cases q <;> rfl

theorem setMHl (b : Index8) : Statement (.setMHl b) := by
  intro _ rest
  cases b <;> rfl

theorem setR (b : Index8) (q : Reg8) : Statement (.setR b q) := by
  intro _ rest
  cases b <;> cases q <;> rfl

theorem inFC : Statement .inFC := fun _ _ => rfl

theorem inRC (r : Reg8) : Statement (.inRC r) := by
  intro _ rest
  cases r <;> rfl

theorem outC0 : Statement .outC0 := fun _ _ => rfl

theorem outCR (r : Reg8) : Statement (.outCR r) := by
  intro _ rest
  cases r <;> rfl

theorem sbcHlRp (rp : RegPair) : Statement (.sbcHlRp rp) := by
  intro _ rest
  cases rp <;> rfl

theorem adcHlRp (rp : RegPair) : Statement (.adcHlRp rp) := by
  intro _ rest
  cases rp <;> rfl

theorem ldMNnRp (rp : RegPair) (nn : Word) : Statement (.ldMNnRp rp nn) := by
  intro _ rest
  have e := congrArg (fun w => Except.ok (ε := DecodeError) (Decoded.mk (.ldMNnRp rp w) 4 2)) (mkWord_hiByte_loByte nn)
  cases rp <;> exact e

theorem ldRpMNn (rp : RegPair) (nn : Word) : Statement (.ldRpMNn rp nn) := by
  intro _ rest
  have e := congrArg (fun w => Except.ok (ε := DecodeError) (Decoded.mk (.ldRpMNn rp w) 4 2)) (mkWord_hiByte_loByte nn)
  cases rp <;> exact e

theorem neg : Statement .neg := fun _ _ => rfl

theorem reti : Statement .reti := fun _ _ => rfl

theorem retn : Statement .retn := fun _ _ => rfl

theorem im0 : Statement .im0 := fun _ _ => rfl

theorem im1 : Statement .im1 := fun _ _ => rfl

theorem im2 : Statement .im2 := fun _ _ => rfl

theorem ldIA : Statement .ldIA := fun _ _ => rfl

theorem ldRA : Statement .ldRA := fun _ _ => rfl

theorem ldAI : Statement .ldAI := fun _ _ => rfl

theorem ldAR : Statement .ldAR := fun _ _ => rfl

theorem rrd : Statement .rrd := fun _ _ => rfl

theorem rld : Statement .rld := fun _ _ => rfl

theorem ldi : Statement .ldi := fun _ _ => rfl

theorem ldir : Statement .ldir := fun _ _ => rfl

theorem ldd : Statement .ldd := fun _ _ => rfl

theorem lddr : Statement .lddr := fun _ _ => rfl

theorem cpi : Statement .cpi := fun _ _ => rfl

theorem cpir : Statement .cpir := fun _ _ => rfl

theorem cpd : Statement .cpd := fun _ _ => rfl

theorem cpdr : Statement .cpdr := fun _ _ => rfl

theorem ini : Statement .ini := fun _ _ => rfl

theorem inir : Statement .inir := fun _ _ => rfl

theorem ind : Statement .ind := fun _ _ => rfl

theorem indr : Statement .indr := fun _ _ => rfl

theorem outi : Statement .outi := fun _ _ => rfl

theorem otir : Statement .otir := fun _ _ => rfl

theorem outd : Statement .outd := fun _ _ => rfl

theorem otdr : Statement .otdr := fun _ _ => rfl

theorem edNop (op : Byte) : Statement (.edNop op) := by
  intro h rest
  have hs := select_edRows_hole op h
  have e : opcodeFetches (.edNop op) = 2 := rfl
  show decodeRows edRows 2 2 op rest = _
  unfold decodeRows
  split at hs <;> simp_all [Build.finish, encode]

theorem addXRp (x : Idx) (rp : RegPair) : Statement (.addXRp x rp) := by
  intro _ rest
  cases x <;> cases rp <;> rfl

theorem ldXNn (x : Idx) (nn : Word) : Statement (.ldXNn x nn) := by
  intro _ rest
  have e := congrArg (fun w => Except.ok (ε := DecodeError) (Decoded.mk (.ldXNn x w) 4 2)) (mkWord_hiByte_loByte nn)
  cases x <;> exact e

theorem ldMNnX (x : Idx) (nn : Word) : Statement (.ldMNnX x nn) := by
  intro _ rest
  have e := congrArg (fun w => Except.ok (ε := DecodeError) (Decoded.mk (.ldMNnX x w) 4 2)) (mkWord_hiByte_loByte nn)
  cases x <;> exact e

theorem incX (x : Idx) : Statement (.incX x) := by
  intro _ rest
  cases x <;> rfl

theorem incXH (x : Idx) : Statement (.incXH x) := by
  intro _ rest
  cases x <;> rfl

theorem decXH (x : Idx) : Statement (.decXH x) := by
  intro _ rest
  cases x <;> rfl

theorem ldXHN (x : Idx) (n : Byte) : Statement (.ldXHN x n) := by
  intro _ rest
  cases x <;> rfl

theorem ldXMNn (x : Idx) (nn : Word) : Statement (.ldXMNn x nn) := by
  intro _ rest
  have e := congrArg (fun w => Except.ok (ε := DecodeError) (Decoded.mk (.ldXMNn x w) 4 2)) (mkWord_hiByte_loByte nn)
  cases x <;> exact e

theorem decX (x : Idx) : Statement (.decX x) := by
  intro _ rest
  cases x <;> rfl

theorem incXL (x : Idx) : Statement (.incXL x) := by
  intro _ rest
  cases x <;> rfl

theorem decXL (x : Idx) : Statement (.decXL x) := by
  intro _ rest
  cases x <;> rfl

theorem ldXLN (x : Idx) (n : Byte) : Statement (.ldXLN x n) := by
  intro _ rest
  cases x <;> rfl

theorem incXd (x : Idx) (d : Byte) : Statement (.incXd x d) := by
  intro _ rest
  cases x <;> rfl

theorem decXd (x : Idx) (d : Byte) : Statement (.decXd x d) := by
  intro _ rest
  cases x <;> rfl

theorem ldXdN (x : Idx) (d : Byte) (n : Byte) : Statement (.ldXdN x d n) := by
  intro _ rest
  cases x <;> rfl

theorem fallbackBeforeHalt (x : Idx) : Statement (.fallbackBeforeHalt x) := by
  intro _ rest
  cases x <;> rfl

theorem ldXdR (x : Idx) (q : Reg8) (d : Byte) : Statement (.ldXdR x q d) := by
  intro _ rest
  cases x <;> cases q <;> rfl

theorem ldRXd (r : Reg8) (x : Idx) (d : Byte) : Statement (.ldRXd r x d) := by
  intro _ rest
  cases r <;> cases x <;> rfl

theorem ldRXH (r : Reg8) (x : Idx) : Statement (.ldRXH r x) := by
  intro _ rest
  cases r <;> cases x <;> rfl

theorem ldRXL (r : Reg8) (x : Idx) : Statement (.ldRXL r x) := by
  intro _ rest
  cases r <;> cases x <;> rfl

theorem ldXHR (x : Idx) (q : Reg8) : Statement (.ldXHR x q) := by
  intro h rest
  cases q <;> cases x <;> first | exact Bool.noConfusion h | rfl

theorem ldXLR (x : Idx) (q : Reg8) : Statement (.ldXLR x q) := by
  intro h rest
  cases q <;> cases x <;> first | exact Bool.noConfusion h | rfl

theorem addAXd (x : Idx) (d : Byte) : Statement (.addAXd x d) := by
  intro _ rest
  cases x <;> rfl

theorem addAXH (x : Idx) : Statement (.addAXH x) := by
  intro _ rest
  cases x <;> rfl

theorem addAXL (x : Idx) : Statement (.addAXL x) := by
  intro _ rest
  cases x <;> rfl

theorem adcAXd (x : Idx) (d : Byte) : Statement (.adcAXd x d) := by
  intro _ rest
  cases x <;> rfl

theorem adcAXH (x : Idx) : Statement (.adcAXH x) := by
  intro _ rest
  cases x <;> rfl

theorem adcAXL (x : Idx) : Statement (.adcAXL x) := by
  intro _ rest
  cases x <;> rfl

theorem subXd (x : Idx) (d : Byte) : Statement (.subXd x d) := by
  intro _ rest
  cases x <;> rfl

theorem subXH (x : Idx) : Statement (.subXH x) := by
  intro _ rest
  cases x <;> rfl

theorem subXL (x : Idx) : Statement (.subXL x) := by
  intro _ rest
  cases x <;> rfl

theorem sbcAXd (x : Idx) (d : Byte) : Statement (.sbcAXd x d) := by
  intro _ rest
  cases x <;> rfl

theorem sbcAXH (x : Idx) : Statement (.sbcAXH x) := by
  intro _ rest
  cases x <;> rfl

theorem sbcAXL (x : Idx) : Statement (.sbcAXL x) := by
  intro _ rest
  cases x <;> rfl

theorem andXd (x : Idx) (d : Byte) : Statement (.andXd x d) := by
  intro _ rest
  cases x <;> rfl

theorem andXH (x : Idx) : Statement (.andXH x) := by
  intro _ rest
  cases x <;> rfl

theorem andXL (x : Idx) : Statement (.andXL x) := by
  intro _ rest
  cases x <;> rfl

theorem xorXd (x : Idx) (d : Byte) : Statement (.xorXd x d) := by
  intro _ rest
  cases x <;> rfl

theorem xorXH (x : Idx) : Statement (.xorXH x) := by
  intro _ rest
  cases x <;> rfl

theorem xorXL (x : Idx) : Statement (.xorXL x) := by
  intro _ rest
  cases x <;> rfl

theorem orXd (x : Idx) (d : Byte) : Statement (.orXd x d) := by
  intro _ rest
  cases x <;> rfl

theorem orXH (x : Idx) : Statement (.orXH x) := by
  intro _ rest
  cases x <;> rfl

theorem orXL (x : Idx) : Statement (.orXL x) := by
  intro _ rest
  cases x <;> rfl

theorem cpXd (x : Idx) (d : Byte) : Statement (.cpXd x d) := by
  intro _ rest
  cases x <;> rfl

theorem cpXH (x : Idx) : Statement (.cpXH x) := by
  intro _ rest
  cases x <;> rfl

theorem cpXL (x : Idx) : Statement (.cpXL x) := by
  intro _ rest
  cases x <;> rfl

theorem indexedBitSpace (x : Idx) (d : Byte) (op : Byte) : Statement (.indexedBitSpace x d op) := fun h => Bool.noConfusion h

theorem popX (x : Idx) : Statement (.popX x) := by
  intro _ rest
  cases x <;> rfl

theorem exMSpX (x : Idx) : Statement (.exMSpX x) := by
  intro _ rest
  cases x <;> rfl

theorem pushX (x : Idx) : Statement (.pushX x) := by
  intro _ rest
  cases x <;> rfl

theorem jpX (x : Idx) : Statement (.jpX x) := by
  intro _ rest
  cases x <;> rfl

theorem ldSpX (x : Idx) : Statement (.ldSpX x) := by
  intro _ rest
  cases x <;> rfl

theorem prefixFallback (x : Idx) (nxt : Byte) : Statement (.prefixFallback x nxt) := by
  intro h rest
  simp only [Instr.wellFormed, Bool.and_eq_true, Bool.not_eq_true', bne_iff_ne] at h
  cases x <;> simp only [encode, lookahead, opcodeFetches, Idx.prefixByte, List.cons_append, List.nil_append] <;>
    (show (if nxt = 0x76 then _ else if usesHL nxt = false then _ else _ : Except DecodeError Decoded) = _
     rw [if_neg h.2, if_pos h.1]; rfl)

theorem rlcXd (x : Idx) (d : Byte) : Statement (.rlcXd x d) := by
  intro _ rest
  cases x <;> rfl

theorem rlcXdR (x : Idx) (d : Byte) (q : Reg8) : Statement (.rlcXdR x d q) := by
  intro _ rest
  cases x <;> cases q <;> rfl

theorem rrcXd (x : Idx) (d : Byte) : Statement (.rrcXd x d) := by
  intro _ rest
  cases x <;> rfl

theorem rrcXdR (x : Idx) (d : Byte) (q : Reg8) : Statement (.rrcXdR x d q) := by
  intro _ rest
  cases x <;> cases q <;> rfl

theorem rlXd (x : Idx) (d : Byte) : Statement (.rlXd x d) := by
  intro _ rest
  cases x <;> rfl

theorem rlXdR (x : Idx) (d : Byte) (q : Reg8) : Statement (.rlXdR x d q) := by
  intro _ rest
  cases x <;> cases q <;> rfl

theorem rrXd (x : Idx) (d : Byte) : Statement (.rrXd x d) := by
  intro _ rest
  cases x <;> rfl

theorem rrXdR (x : Idx) (d : Byte) (q : Reg8) : Statement (.rrXdR x d q) := by
  intro _ rest
  cases x <;> cases q <;> rfl

theorem slaXd (x : Idx) (d : Byte) : Statement (.slaXd x d) := by
  intro _ rest
  cases x <;> rfl

theorem slaXdR (x : Idx) (d : Byte) (q : Reg8) : Statement (.slaXdR x d q) := by
  intro _ rest
  cases x <;> cases q <;> rfl

theorem sraXd (x : Idx) (d : Byte) : Statement (.sraXd x d) := by
  intro _ rest
  cases x <;> rfl

theorem sraXdR (x : Idx) (d : Byte) (q : Reg8) : Statement (.sraXdR x d q) := by
  intro _ rest
  cases x <;> cases q <;> rfl

theorem sllXd (x : Idx) (d : Byte) : Statement (.sllXd x d) := by
  intro _ rest
  cases x <;> rfl

theorem sllXdR (x : Idx) (d : Byte) (q : Reg8) : Statement (.sllXdR x d q) := by
  intro _ rest
  cases x <;> cases q <;> rfl

theorem srlXd (x : Idx) (d : Byte) : Statement (.srlXd x d) := by
  intro _ rest
  cases x <;> rfl

theorem srlXdR (x : Idx) (d : Byte) (q : Reg8) : Statement (.srlXdR x d q) := by
  intro _ rest
  cases x <;> cases q <;> rfl

theorem bitXd (x : Idx) (d : Byte) (b : Index8) : Statement (.bitXd x d b) := by
  intro _ rest
  cases x <;> cases b <;> rfl

theorem bitXdAlias (x : Idx) (d : Byte) (b : Index8) (z : Reg8) : Statement (.bitXdAlias x d b z) := by
  intro _ rest
  cases x <;> cases b <;> cases z <;> rfl

theorem resXd (x : Idx) (d : Byte) (b : Index8) : Statement (.resXd x d b) := by
  intro _ rest
  cases x <;> cases b <;> rfl

theorem resXdR (x : Idx) (d : Byte) (b : Index8) (q : Reg8) : Statement (.resXdR x d b q) := by
  intro _ rest
  cases x <;> cases b <;> cases q <;> rfl

theorem setXd (x : Idx) (d : Byte) (b : Index8) : Statement (.setXd x d b) := by
  intro _ rest
  cases x <;> cases b <;> rfl

theorem setXdR (x : Idx) (d : Byte) (b : Index8) (q : Reg8) : Statement (.setXdR x d b q) := by
  intro _ rest
  cases x <;> cases b <;> cases q <;> rfl

end Sys2Proof.Laws.RoundTrip
end

