-- ==== Sys2Proof/Laws/Step.lean ====
section
/-! SUPPORT. The part of a step before the instruction's operation, said once (30_encoding.md R100). -/

namespace Sys2Proof.Machine

/-- A throttled step is over at once. -/
theorem State.begin_throttled {s : State} (h : s.throttle = 0) : s.begin = .over s := by simp [State.begin, h]

/-- A halted step only uses the throttle and adds the halted cost. -/
theorem State.begin_halted {s : State} (h : s.throttle ≠ 0) (h' : s.halted = true) :
    s.begin = .over (s.useThrottle.tick Config.haltedCycles) := by simp [State.begin, h, h']

/-- The throttle does not move the window. -/
theorem State.window_useThrottle (s : State) : s.useThrottle.window = s.window := by
  unfold State.useThrottle
  split <;> rfl

/-- Otherwise the step fetches what the window decodes to. -/
theorem State.begin_running {s : State} {d : Decoded} (h : s.throttle ≠ 0) (h' : s.halted = false)
    (hd : decode s.window = .ok d) : s.begin = .running d.instr (s.useThrottle.fetched d.size d.opcodeFetches) := by
  have e : decode s.useThrottle.window = .ok d := by rw [State.window_useThrottle]; exact hd
  simp [State.begin, h, h', State.fetch, e]

/-- The addresses of the hook's calls, as a map over their numbers. -/
theorem hookCalls_eq_map (a : Word) (n : Nat) : hookCalls a n = (List.range n).map (fun k => a + BitVec.ofNat 16 k) := by
  induction n generalizing a with
  | zero => rfl
  | succ n ih =>
    rw [List.range_succ_eq_map]
    simp only [hookCalls, ih, List.map_cons, List.map_map]
    congr 1
    · simp
    · apply List.map_congr_left
      intro k _
      simp
      bv_omega

end Sys2Proof.Machine
end

