-- ==== Sys2Proof/Tests/Slice0.lean ====
section
/-! SUPPORT. The model's own tests: ill-formed terms, words written out from the encodings, single steps on small states, and for
each statement with hypotheses a state and operands that meet them. Expected values come from spec/: the encodings of
opcode_table.json and the rules, and 95_test_vectors.md, by the section named. -/

namespace Sys2Proof.Tests

open Sys2Proof.Machine

set_option maxRecDepth 20000

/-! ## Helpers -/

/-- The bytes, with one more after them, decode to the instruction. -/
def decodesTo (bytes : List Byte) (i : Instr) : Bool :=
  match decode (bytes ++ [0x5A]) with
  | .ok d => d.instr == i
  | .error _ => false

/-- The start of 95_test_vectors.md: the reset state with these registers and the bytes at PC = 0x8000. -/
def start (bytes : List Byte) (k : Bank) : State := { State.reset with pc := 0x8000, main := k }.writeBytes 0x8000 bytes

/-- One step answers a next state with the property. -/
def check (s : State) (p : State → Bool) : Bool :=
  match step s with
  | .next t => p t
  | .fault _ => false
  | .refused _ => false

/-- An outcome is a next state with the property. -/
def endsIn (r : Result) (p : State → Bool) : Bool :=
  match r with
  | .next t => p t
  | .fault _ => false
  | .refused _ => false

/-! ## Ill-formed terms (30_encoding.md R108, R114, R116, R120, R122) -/

theorem test_wf_jr_po : Instr.wellFormed (.jrCc .po 0x05) = false := by decide
theorem test_wf_jr_c : Instr.wellFormed (.jrCc .c 0x05) = true := by decide
theorem test_wf_ed_neg_is_no_hole : Instr.wellFormed (.edNop 0x44) = false := by decide
theorem test_wf_ed_hole : Instr.wellFormed (.edNop 0x77) = true := by decide
theorem test_wf_xh_from_h : Instr.wellFormed (.ldXHR .ix .h) = false := by decide
theorem test_wf_xl_from_l : Instr.wellFormed (.ldXLR .iy .l) = false := by decide
theorem test_wf_fallback_before_hl_byte : Instr.wellFormed (.prefixFallback .ix 0x21) = false := by decide
theorem test_wf_fallback_before_halt_row : Instr.wellFormed (.prefixFallback .ix 0x76) = false := by decide
theorem test_wf_indexed_bit_pointer_row : Instr.wellFormed (.indexedBitSpace .ix 0x00 0x46) = false := by decide

/-! ## Words from the encodings of opcode_table.json, one for every row that has words of its own -/

theorem test_decode_base_1 : ([
    ([0x00], .nop),
    ([0x31, 0xFF, 0x80], .ldRpNn .sp 0x80FF),
    ([0x02], .ldMBcA),
    ([0x12], .ldMDeA),
    ([0x22, 0xEF, 0xBE], .ldMNnHl 0xBEEF),
    ([0x32, 0xFF, 0x80], .ldMNnA 0x80FF),
    ([0x03], .incRp .bc),
    ([0x34], .incMHl),
    ([0x35], .decMHl),
    ([0x36, 0x81], .ldMHlN 0x81),
    ([0x04], .incR .b),
    ([0x05], .decR .b),
    ([0x0E, 0xC3], .ldRN .c 0xC3),
    ([0x07], .rlca),
    ([0x0F], .rrca),
    ([0x17], .rla),
    ([0x1F], .rra),
    ([0x27], .daa),
    ([0x2F], .cpl),
    ([0x37], .scf)] : List (List Byte × Instr)).all (fun p => decodesTo p.1 p.2) = true := by decide

theorem test_decode_base_2 : ([
    ([0x3F], .ccf),
    ([0x08], .exAfAf),
    ([0x29], .addHlRp .hl),
    ([0x0A], .ldAMBc),
    ([0x1A], .ldAMDe),
    ([0x2A, 0xEF, 0xBE], .ldHlMNn 0xBEEF),
    ([0x3A, 0xFF, 0x80], .ldAMNn 0x80FF),
    ([0x0B], .decRp .bc),
    ([0x10, 0x05], .djnz 0x05),
    ([0x18, 0x7F], .jr 0x7F),
    ([0x38, 0x7F], .jrCc .c 0x7F),
    ([0x76], .halt),
    ([0x77], .ldMHlR .a),
    ([0x6E], .ldRMHl .l),
    ([0x44], .ldRR .b .h),
    ([0x86], .addAMHl),
    ([0x82], .addAR .d),
    ([0xC6, 0x7F], .addAN 0x7F),
    ([0x8E], .adcAMHl),
    ([0x8C], .adcAR .h)] : List (List Byte × Instr)).all (fun p => decodesTo p.1 p.2) = true := by decide

theorem test_decode_base_3 : ([
    ([0xCE, 0xFE], .adcAN 0xFE),
    ([0x96], .subMHl),
    ([0x93], .subR .e),
    ([0xD6, 0x81], .subN 0x81),
    ([0x9E], .sbcAMHl),
    ([0x9A], .sbcAR .d),
    ([0xDE, 0x80], .sbcAN 0x80),
    ([0xA6], .andMHl),
    ([0xA0], .andR .b),
    ([0xE6, 0x7F], .andN 0x7F),
    ([0xAE], .xorMHl),
    ([0xA8], .xorR .b),
    ([0xEE, 0xC3], .xorN 0xC3),
    ([0xB6], .orMHl),
    ([0xB5], .orR .l),
    ([0xF6, 0xC3], .orN 0xC3),
    ([0xBE], .cpMHl),
    ([0xBB], .cpR .e),
    ([0xFE, 0xFE], .cpN 0xFE),
    ([0xF8], .retCc .m)] : List (List Byte × Instr)).all (fun p => decodesTo p.1 p.2) = true := by decide

theorem test_decode_base_4 : ([
    ([0xD1], .popQq .de),
    ([0xD2, 0xFF, 0x80], .jpCcNn .nc 0x80FF),
    ([0xC3, 0xEF, 0xBE], .jpNn 0xBEEF),
    ([0xFC, 0x34, 0x12], .callCcNn .m 0x1234),
    ([0xF5], .pushQq .af),
    ([0xEF], .rst .i5),
    ([0xC9], .ret),
    ([0xCD, 0xEF, 0xBE], .callNn 0xBEEF),
    ([0xD3, 0xC3], .outNA 0xC3),
    ([0xD9], .exx),
    ([0xDB, 0xC3], .inAN 0xC3),
    ([0xE3], .exMSpHl),
    ([0xE9], .jpHl),
    ([0xEB], .exDeHl),
    ([0xF3], .di),
    ([0xF9], .ldSpHl),
    ([0xFB], .ei)] : List (List Byte × Instr)).all (fun p => decodesTo p.1 p.2) = true := by decide

theorem test_decode_cb_1 : ([
    ([0xCB, 0x06], .rlcMHl),
    ([0xCB, 0x00], .rlcR .b),
    ([0xCB, 0x0E], .rrcMHl),
    ([0xCB, 0x0A], .rrcR .d),
    ([0xCB, 0x16], .rlMHl),
    ([0xCB, 0x11], .rlR .c),
    ([0xCB, 0x1E], .rrMHl),
    ([0xCB, 0x1C], .rrR .h),
    ([0xCB, 0x26], .slaMHl),
    ([0xCB, 0x25], .slaR .l),
    ([0xCB, 0x2E], .sraMHl),
    ([0xCB, 0x2F], .sraR .a),
    ([0xCB, 0x36], .sllMHl),
    ([0xCB, 0x33], .sllR .e),
    ([0xCB, 0x3E], .srlMHl),
    ([0xCB, 0x3B], .srlR .e),
    ([0xCB, 0x4E], .bitMHl .i1),
    ([0xCB, 0x49], .bitR .i1 .c),
    ([0xCB, 0x96], .resMHl .i2),
    ([0xCB, 0x9C], .resR .i3 .h)] : List (List Byte × Instr)).all (fun p => decodesTo p.1 p.2) = true := by decide

theorem test_decode_cb_2 : ([
    ([0xCB, 0xCE], .setMHl .i1),
    ([0xCB, 0xE9], .setR .i5 .c)] : List (List Byte × Instr)).all (fun p => decodesTo p.1 p.2) = true := by decide

theorem test_decode_ed_1 : ([
    ([0xED, 0x70], .inFC),
    ([0xED, 0x60], .inRC .h),
    ([0xED, 0x71], .outC0),
    ([0xED, 0x79], .outCR .a),
    ([0xED, 0x72], .sbcHlRp .sp),
    ([0xED, 0x6A], .adcHlRp .hl),
    ([0xED, 0x63, 0xEF, 0xBE], .ldMNnRp .hl 0xBEEF),
    ([0xED, 0x4B, 0xEF, 0xBE], .ldRpMNn .bc 0xBEEF),
    ([0xED, 0x7C], .neg),
    ([0xED, 0x4D], .reti),
    ([0xED, 0x5D], .retn),
    ([0xED, 0x46], .im0),
    ([0xED, 0x76], .im1),
    ([0xED, 0x5E], .im2),
    ([0xED, 0x47], .ldIA),
    ([0xED, 0x4F], .ldRA),
    ([0xED, 0x57], .ldAI),
    ([0xED, 0x5F], .ldAR),
    ([0xED, 0x67], .rrd),
    ([0xED, 0x6F], .rld)] : List (List Byte × Instr)).all (fun p => decodesTo p.1 p.2) = true := by decide

theorem test_decode_ed_2 : ([
    ([0xED, 0xA0], .ldi),
    ([0xED, 0xB0], .ldir),
    ([0xED, 0xA8], .ldd),
    ([0xED, 0xB8], .lddr),
    ([0xED, 0xA1], .cpi),
    ([0xED, 0xB1], .cpir),
    ([0xED, 0xA9], .cpd),
    ([0xED, 0xB9], .cpdr),
    ([0xED, 0xA2], .ini),
    ([0xED, 0xB2], .inir),
    ([0xED, 0xAA], .ind),
    ([0xED, 0xBA], .indr),
    ([0xED, 0xA3], .outi),
    ([0xED, 0xB3], .otir),
    ([0xED, 0xAB], .outd),
    ([0xED, 0xBB], .otdr),
    ([0xED, 0x77], .edNop 0x77)] : List (List Byte × Instr)).all (fun p => decodesTo p.1 p.2) = true := by decide

theorem test_decode_index_1 : ([
    ([0xFD, 0x29], .addXRp .iy .hl),
    ([0xFD, 0x21, 0x34, 0x12], .ldXNn .iy 0x1234),
    ([0xDD, 0x22, 0x34, 0x12], .ldMNnX .ix 0x1234),
    ([0xDD, 0x23], .incX .ix),
    ([0xFD, 0x24], .incXH .iy),
    ([0xDD, 0x25], .decXH .ix),
    ([0xFD, 0x26, 0xFE], .ldXHN .iy 0xFE),
    ([0xFD, 0x2A, 0xFF, 0x80], .ldXMNn .iy 0x80FF),
    ([0xDD, 0x2B], .decX .ix),
    ([0xFD, 0x2C], .incXL .iy),
    ([0xFD, 0x2D], .decXL .iy),
    ([0xDD, 0x2E, 0xC3], .ldXLN .ix 0xC3),
    ([0xDD, 0x34, 0x05], .incXd .ix 0x05),
    ([0xDD, 0x35, 0x05], .decXd .ix 0x05),
    ([0xDD, 0x36, 0x05, 0xC3], .ldXdN .ix 0x05 0xC3),
    ([0xFD, 0x76], .fallbackBeforeHalt .iy),
    ([0xDD, 0x77, 0xC3], .ldXdR .ix .a 0xC3),
    ([0xFD, 0x5E, 0x05], .ldRXd .e .iy 0x05),
    ([0xDD, 0x6C], .ldRXH .l .ix),
    ([0xDD, 0x4D], .ldRXL .c .ix)] : List (List Byte × Instr)).all (fun p => decodesTo p.1 p.2) = true := by decide

theorem test_decode_index_2 : ([
    ([0xDD, 0x60], .ldXHR .ix .b),
    ([0xDD, 0x6F], .ldXLR .ix .a),
    ([0xFD, 0x86, 0xC3], .addAXd .iy 0xC3),
    ([0xDD, 0x84], .addAXH .ix),
    ([0xFD, 0x85], .addAXL .iy),
    ([0xFD, 0x8E, 0xFE], .adcAXd .iy 0xFE),
    ([0xDD, 0x8C], .adcAXH .ix),
    ([0xDD, 0x8D], .adcAXL .ix),
    ([0xDD, 0x96, 0xC3], .subXd .ix 0xC3),
    ([0xDD, 0x94], .subXH .ix),
    ([0xDD, 0x95], .subXL .ix),
    ([0xFD, 0x9E, 0xFE], .sbcAXd .iy 0xFE),
    ([0xDD, 0x9C], .sbcAXH .ix),
    ([0xDD, 0x9D], .sbcAXL .ix),
    ([0xFD, 0xA6, 0xFE], .andXd .iy 0xFE),
    ([0xFD, 0xA4], .andXH .iy),
    ([0xDD, 0xA5], .andXL .ix),
    ([0xFD, 0xAE, 0x7F], .xorXd .iy 0x7F),
    ([0xFD, 0xAC], .xorXH .iy),
    ([0xDD, 0xAD], .xorXL .ix)] : List (List Byte × Instr)).all (fun p => decodesTo p.1 p.2) = true := by decide

theorem test_decode_index_3 : ([
    ([0xDD, 0xB6, 0xC3], .orXd .ix 0xC3),
    ([0xFD, 0xB4], .orXH .iy),
    ([0xFD, 0xB5], .orXL .iy),
    ([0xFD, 0xBE, 0x80], .cpXd .iy 0x80),
    ([0xDD, 0xBC], .cpXH .ix),
    ([0xDD, 0xBD], .cpXL .ix),
    ([0xFD, 0xE1], .popX .iy),
    ([0xDD, 0xE3], .exMSpX .ix),
    ([0xDD, 0xE5], .pushX .ix),
    ([0xDD, 0xE9], .jpX .ix),
    ([0xDD, 0xF9], .ldSpX .ix),
    ([0xDD, 0xEB], .prefixFallback .ix 0xEB)] : List (List Byte × Instr)).all (fun p => decodesTo p.1 p.2) = true := by decide

theorem test_decode_indexed_bit_1 : ([
    ([0xFD, 0xCB, 0x80, 0x06], .rlcXd .iy 0x80),
    ([0xDD, 0xCB, 0x80, 0x00], .rlcXdR .ix 0x80 .b),
    ([0xFD, 0xCB, 0xC3, 0x0E], .rrcXd .iy 0xC3),
    ([0xFD, 0xCB, 0x81, 0x0C], .rrcXdR .iy 0x81 .h),
    ([0xDD, 0xCB, 0xFE, 0x16], .rlXd .ix 0xFE),
    ([0xDD, 0xCB, 0x7F, 0x10], .rlXdR .ix 0x7F .b),
    ([0xDD, 0xCB, 0x80, 0x1E], .rrXd .ix 0x80),
    ([0xFD, 0xCB, 0x80, 0x18], .rrXdR .iy 0x80 .b),
    ([0xDD, 0xCB, 0x05, 0x26], .slaXd .ix 0x05),
    ([0xFD, 0xCB, 0x80, 0x24], .slaXdR .iy 0x80 .h),
    ([0xDD, 0xCB, 0xC3, 0x2E], .sraXd .ix 0xC3),
    ([0xFD, 0xCB, 0x05, 0x2C], .sraXdR .iy 0x05 .h),
    ([0xFD, 0xCB, 0x80, 0x36], .sllXd .iy 0x80),
    ([0xDD, 0xCB, 0xC3, 0x34], .sllXdR .ix 0xC3 .h),
    ([0xFD, 0xCB, 0x80, 0x3E], .srlXd .iy 0x80),
    ([0xDD, 0xCB, 0x05, 0x39], .srlXdR .ix 0x05 .c),
    ([0xFD, 0xCB, 0x81, 0x66], .bitXd .iy 0x81 .i4),
    ([0xFD, 0xCB, 0x7F, 0x4D], .bitXdAlias .iy 0x7F .i1 .l),
    ([0xDD, 0xCB, 0x05, 0x8E], .resXd .ix 0x05 .i1),
    ([0xDD, 0xCB, 0xC3, 0x9F], .resXdR .ix 0xC3 .i3 .a)] : List (List Byte × Instr)).all (fun p => decodesTo p.1 p.2) = true := by decide

theorem test_decode_indexed_bit_2 : ([
    ([0xDD, 0xCB, 0xFE, 0xF6], .setXd .ix 0xFE .i6),
    ([0xFD, 0xCB, 0xFE, 0xD9], .setXdR .iy 0xFE .i3 .c)] : List (List Byte × Instr)).all (fun p => decodesTo p.1 p.2) = true := by decide

/-! ## withFetchWord and decodeTableWord -/

theorem test_table_word : decodeTableWord 8 0x3E = some (.ldRN .a 0x00) := by decide
theorem test_table_word_with_operand : decodeTableWord 16 0x423E = some (.ldRN .a 0x42) := by decide
theorem test_table_word_prefixed : decodeTableWord 32 0x01CBDD = some (.rlcXdR .ix 0x01 .b) := by decide
theorem test_fetch_word_runs_first :
    check (State.reset.withFetchWord 16 0x423E) (fun t => t.a == 0x42 && t.pc == 0x0002) = true := by decide
theorem test_fetch_word_of_a_halted_throttled_state :
    check ({ State.reset with halted := true, throttle := 0, pc := 0xFFFF }.withFetchWord 16 0x423E)
      (fun t => t.a == 0x42 && t.pc == 0x0001) = true := by decide

/-! ## Flag tables (95_test_vectors.md 1.2, 1.4; 40_alu_flags.md) -/

theorem test_sz53 : [sz53 0x00, sz53 0x28, sz53 0x7F, sz53 0x80, sz53 0xFF] = [0x40, 0x28, 0x28, 0x80, 0xA8] := by decide
theorem test_sz53p : [sz53p 0x00, sz53p 0x28, sz53p 0x7F, sz53p 0x80, sz53p 0xFF] = [0x44, 0x2C, 0x28, 0x80, 0xAC] := by
  decide
theorem test_add8_carry : add8 0xFF 0x01 false = (0x00, 0x51) := by decide
theorem test_sub8_borrow : sub8 0x00 0x01 false = (0xFF, 0xBB) := by decide
theorem test_io_block_flags_ini : ioBlockFlags 0x80 (0x80 + 0x11) 0x01 = 0x06 := by decide
theorem test_io_block_flags_ind : ioBlockFlags 0xFF (0xFF + 0x0F) 0x00 = 0x57 := by decide

/-! ## Single steps (95_test_vectors.md 1 to 7) -/

theorem test_scenario_first_step :
    check (start [0x3E, 0x42] ⟨0xFF, 0xFF, 0, 0, 0, 0, 0, 0⟩)
      (fun t => t.a == 0x42 && t.f == 0xFF && t.cycles == 7 && t.refresh == 0x01 && t.pc == 0x8002) = true := by decide
theorem test_dd_fallback :
    check (start [0xDD, 0x00] Bank.zero) (fun t => t.pc == 0x8001 && t.refresh == 0x01 && t.cycles == 4) = true := by decide
theorem test_ed_hole :
    check (start [0xED, 0x77] Bank.zero) (fun t => t.pc == 0x8002 && t.refresh == 0x02 && t.cycles == 8) = true := by decide
theorem test_ld_h_ix_d_is_plain_h :
    check ({ start [0xDD, 0x66, 0x02] Bank.zero with ix := 0x9000 }.writeByte 0x9002 0x5A)
      (fun t => t.reg .h == 0x5A && t.ix == 0x9000 && t.cycles == 19) = true := by decide
theorem test_ld_xh_xl :
    check { start [0xDD, 0x65] Bank.zero with ix := 0x1234 } (fun t => t.ix == 0x3434 && t.hl == 0x0000) = true := by decide
theorem test_ld_nn_hl_wraps :
    check (start [0x22, 0xFF, 0xFF] ⟨0, 0, 0, 0, 0, 0, 0xBE, 0xEF⟩)
      (fun t => t.readByte 0xFFFF == 0xEF && t.readByte 0x0000 == 0xBE && t.cycles == 16) = true := by decide
theorem test_ld_ix_d_n_negative :
    check { start [0xDD, 0x36, 0xFF, 0x77] Bank.zero with ix := 0x9000 }
      (fun t => t.readByte 0x8FFF == 0x77 && t.pc == 0x8004 && t.cycles == 19) = true := by decide
theorem test_push_bc :
    check { start [0xC5] ⟨0, 0, 0x12, 0x34, 0, 0, 0, 0⟩ with sp := 0x9000 }
      (fun t => t.sp == 0x8FFE && t.readByte 0x8FFE == 0x34 && t.readByte 0x8FFF == 0x12) = true := by decide
theorem test_pop_af :
    check ({ start [0xF1] Bank.zero with sp := 0x9000 }.writeBytes 0x9000 [0xD7, 0x55])
      (fun t => t.a == 0x55 && t.f == 0xD7 && t.sp == 0x9002) = true := by decide
theorem test_pop_wraps :
    check ((start [0xE1] Bank.zero).writeBytes 0xFFFF [0x34, 0x12]) (fun t => t.hl == 0x1234 && t.sp == 0x0001) = true := by
  decide
theorem test_ex_sp_hl :
    check ({ start [0xE3] ⟨0, 0, 0, 0, 0, 0, 0x12, 0x34⟩ with sp := 0x9000 }.writeBytes 0x9000 [0x78, 0x56])
      (fun t => t.hl == 0x5678 && t.readByte 0x9000 == 0x34 && t.readByte 0x9001 == 0x12) = true := by decide
theorem test_ld_a_i :
    check { start [0xED, 0x57] ⟨0, 0x01, 0, 0, 0, 0, 0, 0⟩ with i := 0x80, iff1 := true, iff2 := true }
      (fun t => t.a == 0x80 && t.f == 0x85 && t.cycles == 9) = true := by decide
theorem test_ld_a_r_counts_its_own_fetches :
    check { start [0xED, 0x5F] Bank.zero with rlo := 0x7F } (fun t => t.a == 0x01 && t.refresh == 0x01) = true := by decide
theorem test_ld_r_a :
    check (start [0xED, 0x4F] ⟨0xFF, 0, 0, 0, 0, 0, 0, 0⟩) (fun t => t.refresh == 0xFF) = true := by decide
theorem test_sbc_a_b :
    check (start [0x98] ⟨0x10, 0x01, 0x0F, 0, 0, 0, 0, 0⟩) (fun t => t.a == 0x00 && t.f == 0x52) = true := by decide
theorem test_and_n :
    check (start [0xE6, 0x0F] ⟨0x3C, 0xFF, 0, 0, 0, 0, 0, 0⟩) (fun t => t.a == 0x0C && t.f == 0x1C) = true := by decide
theorem test_cp_takes_f5_f3_of_the_operand :
    check (start [0xFE, 0x28] Bank.zero) (fun t => t.a == 0x00 && t.f == 0xBB) = true := by decide
theorem test_inc_a :
    check (start [0x3C] ⟨0x7F, 0x01, 0, 0, 0, 0, 0, 0⟩) (fun t => t.a == 0x80 && t.f == 0x95) = true := by decide
theorem test_dec_ix_d :
    check { start [0xDD, 0x35, 0xFE] Bank.zero with ix := 0x9002 }
      (fun t => t.readByte 0x9000 == 0xFF && t.f == 0xBA && t.cycles == 23) = true := by decide
theorem test_daa_after_add :
    check (start [0x27] ⟨0x9A, 0x88, 0, 0, 0, 0, 0, 0⟩) (fun t => t.a == 0x00 && t.f == 0x55) = true := by decide
theorem test_cpl :
    check (start [0x2F] ⟨0x55, 0, 0, 0, 0, 0, 0, 0⟩) (fun t => t.a == 0xAA && t.f == 0x3A) = true := by decide
theorem test_neg_alias :
    check (start [0xED, 0x4C] ⟨0x01, 0, 0, 0, 0, 0, 0, 0⟩) (fun t => t.a == 0xFF && t.f == 0xBB) = true := by decide
theorem test_ccf :
    check (start [0x3F] ⟨0x28, 0x01, 0, 0, 0, 0, 0, 0⟩) (fun t => t.f == 0x38) = true := by decide
theorem test_add_hl_de :
    check (start [0x19] ⟨0, 0xC4, 0, 0, 0, 0x01, 0xFF, 0xFF⟩) (fun t => t.hl == 0x0000 && t.f == 0xD5) = true := by decide
theorem test_adc_hl_bc :
    check (start [0xED, 0x4A] ⟨0, 0x01, 0, 0, 0, 0, 0x7F, 0xFF⟩) (fun t => t.hl == 0x8000 && t.f == 0x94) = true := by decide
theorem test_sbc_hl_de :
    check (start [0xED, 0x52] ⟨0, 0, 0, 0, 0x12, 0x34, 0x12, 0x34⟩) (fun t => t.hl == 0x0000 && t.f == 0x42) = true := by decide
theorem test_rra :
    check (start [0x1F] ⟨0x01, 0x01, 0, 0, 0, 0, 0, 0⟩) (fun t => t.a == 0x80 && t.f == 0x01) = true := by decide
theorem test_sll_a :
    check (start [0xCB, 0x37] ⟨0x80, 0, 0, 0, 0, 0, 0, 0⟩) (fun t => t.a == 0x01 && t.f == 0x01) = true := by decide
theorem test_bit_7_h :
    check (start [0xCB, 0x7C] ⟨0, 0, 0, 0, 0, 0, 0x80, 0⟩) (fun t => t.f == 0x90) = true := by decide
theorem test_bit_2_ix_d_takes_f5_f3_of_the_address :
    check { start [0xDD, 0xCB, 0x10, 0x56] Bank.zero with ix := 0x28F0 } (fun t => t.f == 0x7C && t.cycles == 20) = true := by
  decide
theorem test_rlc_ix_d_copies_to_b :
    check ({ start [0xDD, 0xCB, 0x01, 0x00] Bank.zero with ix := 0x9000 }.writeByte 0x9001 0x81)
      (fun t => t.reg .b == 0x03 && t.readByte 0x9001 == 0x03 && t.f == 0x05 && t.cycles == 23) = true := by decide
theorem test_rld :
    check ((start [0xED, 0x6F] ⟨0x12, 0x01, 0, 0, 0, 0, 0x90, 0⟩).writeByte 0x9000 0x34)
      (fun t => t.a == 0x13 && t.readByte 0x9000 == 0x42) = true := by decide
theorem test_jr_back : check (start [0x18, 0xFE] Bank.zero) (fun t => t.pc == 0x8000 && t.cycles == 12) = true := by decide
theorem test_djnz_wraps :
    check (start [0x10, 0x10] Bank.zero) (fun t => t.reg .b == 0xFF && t.pc == 0x8012 && t.cycles == 13) = true := by decide
theorem test_call_po_taken :
    check { start [0xE4, 0x00, 0x40] Bank.zero with sp := 0x9000 }
      (fun t => t.pc == 0x4000 && t.readByte 0x8FFE == 0x03 && t.readByte 0x8FFF == 0x80) = true := by decide
theorem test_ret_p_not_taken :
    check (start [0xF0] ⟨0, 0x80, 0, 0, 0, 0, 0, 0⟩) (fun t => t.pc == 0x8001 && t.cycles == 5) = true := by decide
theorem test_ldir_rewinds :
    check ((start [0xED, 0xB0] ⟨0, 0, 0, 3, 0xA0, 0, 0x90, 0⟩).writeByte 0x9000 0x01)
      (fun t => t.pc == 0x8000 && t.bc == 0x0002 && t.f == 0x04 && t.readByte 0xA000 == 0x01 && t.cycles == 21) = true := by
  decide
theorem test_cpi_half_borrow :
    check ((start [0xED, 0xA1] ⟨0x10, 0, 0, 1, 0, 0, 0x90, 0⟩).writeByte 0x9000 0x01)
      (fun t => t.f == 0x3A && t.bc == 0x0000) = true := by decide
theorem test_outi_presents_b_after_the_decrement :
    check ((start [0xED, 0xA3] ⟨0, 0, 0x02, 0x10, 0, 0, 0x90, 0⟩).writeByte 0x9000 0x7F)
      (fun t => t.ports.written == [(0x0110, 0x7F)]) = true := by decide
theorem test_out_n_a :
    check (start [0xD3, 0xFE] ⟨0x07, 0, 0, 0, 0, 0, 0, 0⟩) (fun t => t.ports.written == [(0x07FE, 0x07)]) = true := by decide
theorem test_halt : check (start [0x76] Bank.zero) (fun t => t.halted && t.pc == 0x8001 && t.cycles == 4) = true := by decide
theorem test_reti_copies_iff2 :
    check ({ start [0xED, 0x4D] Bank.zero with sp := 0x9000, iff2 := true }.writeBytes 0x9000 [0x34, 0x12])
      (fun t => t.pc == 0x1234 && t.iff1 && t.cycles == 14) = true := by decide
theorem test_throttle_counts_down :
    check { start [0x3C] Bank.zero with throttle := 2 } (fun t => t.a == 0x01 && t.throttle == 1) = true := by decide

/-! ## Acceptance (95_test_vectors.md 8) -/

theorem test_nmi_has_priority :
    endsIn (accept true true 0xFF { State.reset with pc := 0x8000, sp := 0x9000, im := 1, iff1 := true, iff2 := true })
      (fun t => t.pc == 0x0066 && t.sp == 0x8FFE && t.iff1 == false && t.iff2 && t.cycles == 11
        && t.readByte 0x8FFF == 0x80) = true := by decide
theorem test_im2_odd_data :
    endsIn (accept false true 0x01 ({ State.reset with pc := 0x8000, sp := 0x9000, im := 2, i := 0xFE, iff1 := true }.writeBytes
      0xFE01 [0x23, 0x81])) (fun t => t.pc == 0x8123 && t.cycles == 19) = true := by decide
theorem test_im0_non_rst :
    accept false true 0x00 { State.reset with iff1 := true } = .fault (.im0NotRst 0x00) := rfl
theorem test_im3 : accept false true 0xFF { State.reset with iff1 := true, im := 3 } = .fault .badIm := rfl

/-! ## States and operands that meet the hypotheses of the statements -/

/-- A state with LDIR at PC = 0xFFFF, the last address, and BC = 2. -/
def copier : State := { State.reset with pc := 0xFFFF, main := ⟨0, 0, 0, 2, 0xA0, 0, 0x90, 0⟩ }.writeBytes 0xFFFF [0xED, 0xB0]

theorem test_witness_refresh_step : let s : State := (start [0xED, 0x5F] State.reset.main)
    s.throttle ≠ 0 ∧ s.halted = false ∧ s.readByte s.pc = 0xED ∧ s.readByte (s.pc + 1) = 0x5F := by decide
theorem test_witness_refresh_write_step : let s : State := (start [0xED, 0x4F] State.reset.main)
    s.throttle ≠ 0 ∧ s.halted = false ∧ s.readByte s.pc = 0xED ∧ s.readByte (s.pc + 1) = 0x4F := by decide
theorem test_witness_round_trip : Instr.wellFormed (.jrCc .c 0x80) = true ∧ Instr.wellFormed (.edNop 0x3F) = true
    ∧ Instr.wellFormed (.edNop 0xC0) = true ∧ Instr.wellFormed (.ldXHR .iy .a) = true
    ∧ Instr.wellFormed (.prefixFallback .iy 0xFD) = true ∧ Instr.wellFormed (.setXdR .ix 0x80 .i7 .h) = true := by decide
theorem test_witness_fallback : usesHL 0xEB = false ∧ (0xEB : Byte) ≠ 0x76 ∧ usesHL 0xFF = false ∧ usesHL 0x00 = false := by decide
theorem test_witness_step : copier.throttle ≠ 0 ∧ copier.halted = false
    ∧ decode [copier.readByte copier.pc, copier.readByte (copier.pc + 1), copier.readByte (copier.pc + 2),
        copier.readByte (copier.pc + 3)] = .ok ⟨.ldir, 2, 2⟩ := ⟨by decide, rfl, rfl⟩
theorem test_witness_step_with_throttle : let s : State := { State.reset with throttle := 1 }
    s.throttle ≠ 0 ∧ s.halted = false ∧ decode s.window = .ok ⟨.nop, 1, 1⟩ := ⟨by decide, rfl, rfl⟩
theorem test_witness_throttled : ({ State.reset with throttle := 0 } : State).throttle = 0 := by decide
theorem test_witness_halted : let s : State := { State.reset with halted := true, throttle := 1 }
    s.throttle ≠ 0 ∧ s.halted = true := by decide
theorem test_witness_inv : copier.Inv ∧ ∃ t, step copier = .next t := ⟨⟨by decide, by decide, by decide⟩, _, rfl⟩
theorem test_witness_inv_flip_flops : State.Inv { State.reset with iff1 := true, iff2 := true, im := 2 } :=
  ⟨by decide, by decide, by decide⟩
theorem test_witness_host_move : State.reset.Inv ∧ (∀ p, HostAction.accept true false 0xFF = .restore p → p.im ≠ 3)
    ∧ ∃ t, perform State.reset (.accept true false 0xFF) = .next t :=
  ⟨⟨by decide, by decide, by decide⟩, (fun _ h => nomatch h), _, rfl⟩
theorem test_witness_exec_cheapest : ∃ t, exec .nop State.reset = .next t ∧ t.cycles = 4 := ⟨_, rfl, rfl⟩
theorem test_witness_exec_dearest : ∃ t, exec (.exMSpX .ix) State.reset = .next t ∧ t.cycles = 23 := ⟨_, rfl, rfl⟩
theorem test_witness_shadow_ports : (∃ t, exec .incMHl State.reset = .next t) ∧ swapsShadow .incMHl = false
    ∧ reachesPorts .incMHl = false ∧ ∀ b, Instr.incMHl ≠ .bitMHl b := ⟨⟨_, rfl⟩, rfl, rfl, fun _ h => nomatch h⟩
theorem test_witness_control_writers : (∃ t, exec .im2 State.reset = .next t) ∧ Instr.im2 ≠ .ldIA ∧ Instr.im2 ≠ .ldRA
    ∧ writesMode .im2 = true ∧ Instr.im2 ≠ .halt ∧ writesFlipFlops .im2 = false :=
  ⟨⟨_, rfl⟩, by decide, by decide, rfl, by decide, rfl⟩
theorem test_witness_control_writers_mode_kept : (∃ t, exec .ei State.reset = .next t) ∧ writesMode .ei = false := ⟨⟨_, rfl⟩, rfl⟩
theorem test_witness_flags_kept : (∃ t, exec (.popQq .hl) State.reset = .next t) ∧ writesFlags (.popQq .hl) = false :=
  ⟨⟨_, rfl⟩, rfl⟩
theorem test_witness_pc_kept : (∃ t, exec .ldi State.reset = .next t) ∧ movesPc .ldi = false := ⟨⟨_, rfl⟩, rfl⟩
theorem test_witness_memory : State.reset.mem.wf = true ∧ copier.mem.wf = true ∧ (0x0000 : Word) ≠ 0xFFFF
    ∧ (0x0001 : Word) ≠ 0xFFFF ∧ (0x0001 : Word) ≠ 0xFFFF + 1 := by decide
theorem test_witness_plain_register : Reg8.isHOrL .b = false ∧ Reg8.isHOrL .a = false := by decide
theorem test_witness_push_pop : State.reset.mem.wf = true
    ∧ ∃ t u, exec (.pushQq .hl) State.reset = .next t ∧ exec (.popQq .af) t = .next u := ⟨by decide, _, _, rfl, rfl⟩
theorem test_witness_exchange_register : Reg8.b ≠ .a ∧ Reg8.l ≠ .a := by decide
theorem test_witness_daa : let s : State := { State.reset with main := ⟨0x9A, 0x00, 0, 0, 0, 0, 0, 0⟩ }
    (0x66 : Byte) = (if s.f.getLsbD 4 = true ∨ 9 < s.a.toNat % 16 then 0x06 else 0x00)
      + (if s.f.getLsbD 0 = true ∨ 0x99 < s.a.toNat then 0x60 else 0x00) := by decide
theorem test_witness_daa_just_below : let s : State := { State.reset with main := ⟨0x99, 0x00, 0, 0, 0, 0, 0, 0⟩ }
    (0x00 : Byte) = (if s.f.getLsbD 4 = true ∨ 9 < s.a.toNat % 16 then 0x06 else 0x00)
      + (if s.f.getLsbD 0 = true ∨ 0x99 < s.a.toNat then 0x60 else 0x00) := by decide
theorem test_witness_alias_bytes : (0x44 : Byte) ∈ [(0x44 : Byte), 0x4C, 0x54, 0x5C, 0x64, 0x6C, 0x74, 0x7C]
    ∧ (0x45 : Byte) ∈ [(0x45 : Byte), 0x55, 0x5D, 0x65, 0x6D, 0x75, 0x7D] ∧ (0x6E : Byte) ∈ [(0x46 : Byte), 0x4E, 0x66, 0x6E]
    ∧ (0x76 : Byte) ∈ [(0x56 : Byte), 0x76] ∧ (0x7E : Byte) ∈ [(0x5E : Byte), 0x7E] := by decide
theorem test_witness_add_x : (State.reset.idx .ix = if RegPair.hl = .hl then State.reset.idx .ix else State.reset.pair .hl)
    ∧ State.reset.sp = if RegPair.sp = .hl then State.reset.idx .ix else State.reset.pair .sp := by decide
theorem test_witness_carry_16 : (0x9000 : Word) = copier.hl ∧ (0xFFFF : Word) = copier.pair .sp ∧ false = copier.f.getLsbD 0 := by
  decide
theorem test_witness_indexed_space : (0b110#3 = (none : Option Reg8).elim 0b110#3 Reg8.code)
    ∧ (0b111#3 = (some Reg8.a).elim 0b110#3 Reg8.code) ∧ (0x00 : Byte) = copier.readByte (copier.ea .ix 0x80) := by decide
theorem test_witness_nibbles : (0x00 : Byte) = copier.readByte copier.hl ∧ copier.mem.wf = true
    ∧ ∃ t u, exec .rld copier = .next t ∧ exec .rrd t = .next u := ⟨by decide, by decide, _, _, rfl, rfl⟩
theorem test_witness_bit_numbers : (0 < 8) ∧ (7 < 8) := by decide
theorem test_witness_conditions : State.reset.cond .c = true ∧ State.reset.cond .nc = false := by decide
theorem test_witness_return_address : (0x0000 : Word)
    = mkWord (State.reset.readByte (State.reset.sp + 1)) (State.reset.readByte State.reset.sp) := by decide
theorem test_witness_block_transfer :
    (Instr.lddr, (-1 : Word), true) ∈ [(Instr.ldi, (1 : Word), false), (.ldir, 1, true), (.ldd, -1, false), (.lddr, -1, true)]
      ∧ copier.bc ≠ 1 ∧ { copier with main := ⟨0, 0, 0, 1, 0, 0, 0, 0⟩ }.bc = 1 := by decide
theorem test_witness_block_compare :
    (Instr.cpir, (1 : Word), true) ∈ [(Instr.cpi, (1 : Word), false), (.cpir, 1, true), (.cpd, -1, false), (.cpdr, -1, true)]
      ∧ (0x00 : Byte) = copier.readByte copier.hl
      ∧ (0x00 : Byte) = copier.a - 0x00 - (if halfBorrow copier.a 0x00 false then 1 else 0) := by decide
theorem test_witness_block_input : ∃ (v b : Byte) (k : Nat),
    (Instr.indr, (-1 : Word), (-1 : Byte), true) ∈ [(Instr.ini, (1 : Word), (1 : Byte), false), (.inir, 1, 1, true),
      (.ind, -1, -1, false), (.indr, -1, -1, true)]
      ∧ v = copier.portRead copier.bc ∧ b = copier.reg .b - 1 ∧ k = v.toNat + (copier.reg .c + -1).toNat :=
  ⟨_, _, _, by decide, rfl, rfl, rfl⟩
theorem test_witness_block_output :
    (Instr.otir, (1 : Word), true) ∈ [(Instr.outi, (1 : Word), false), (.otir, 1, true), (.outd, -1, false), (.otdr, -1, true)]
      ∧ (0x00 : Byte) = copier.readByte copier.hl ∧ (0xFF : Byte) = copier.reg .b - 1
      ∧ 1 = (0x00 : Byte).toNat + (loByte (copier.hl + 1)).toNat := by decide
theorem test_witness_block_move :
    (Instr.ldir, (1 : Word), (0xB0 : Byte)) ∈ [(Instr.ldir, (1 : Word), (0xB0 : Byte)), (.lddr, -1, 0xB8)]
      ∧ copier.mem.wf = true ∧ copier.throttle < 0 ∧ copier.halted = false ∧ copier.readByte copier.pc = 0xED
      ∧ copier.readByte (copier.pc + 1) = 0xB0 ∧ copier.bc ≠ 0
      ∧ (∀ k < copier.bc.toNat, copier.de + BitVec.ofNat 16 k * 1 ≠ copier.pc
        ∧ copier.de + BitVec.ofNat 16 k * 1 ≠ copier.pc + 1)
      ∧ ∀ j < copier.bc.toNat, ∀ k < j, copier.hl + BitVec.ofNat 16 j * 1 ≠ copier.de + BitVec.ofNat 16 k * 1 := by decide
theorem test_witness_ed_holes : (0x3F : Byte).toNat ≤ 0x3F ∧ (0x80 ≤ (0x9F : Byte).toNat ∧ (0x9F : Byte).toNat ≤ 0x9F)
    ∧ 0xC0 ≤ (0xC0 : Byte).toNat := by decide
theorem test_witness_maskable_im0 : let s : State := { State.reset with iff1 := true }
    s.iff1 = true ∧ s.im ≠ 3 ∧ (s.im = 0 → (0xFF : Byte) &&& 0xC7 = 0xC7) := by decide
theorem test_witness_maskable_im1 : let s : State := { State.reset with iff1 := true, im := 1 }
    s.iff1 = true ∧ s.im ≠ 3 ∧ (s.im = 0 → (0x00 : Byte) &&& 0xC7 = 0xC7) ∧ s.im = 1 := by decide
theorem test_witness_maskable_im2 : let s : State := { State.reset with iff1 := true, im := 2 }
    s.iff1 = true ∧ s.im ≠ 3 ∧ (s.im = 0 → (0x00 : Byte) &&& 0xC7 = 0xC7) ∧ s.im = 2 := by decide
theorem test_witness_bad_im : let s : State := { State.reset with iff1 := true, im := 3 }
    s.iff1 = true ∧ s.im = 3 := by decide
theorem test_witness_im0_non_rst : let s : State := { State.reset with iff1 := true }
    s.iff1 = true ∧ s.im = 0 ∧ (0xC6 : Byte) &&& 0xC7 ≠ 0xC7 := by decide
theorem test_witness_dropped : State.reset.iff1 = false := by decide
theorem test_witness_nmi_and_retn : State.reset.mem.wf = true
    ∧ ∃ t u, accept true false 0xFF State.reset = .next t ∧ exec .retn t = .next u := ⟨by decide, _, _, rfl, rfl⟩
theorem test_witness_maskable_and_reti : let s : State := { State.reset with iff1 := true, im := 1 }
    s.mem.wf = true ∧ s.iff1 = true ∧ ∃ t u, accept false true 0xFF s = .next t ∧ exec .reti t = .next u :=
  ⟨by decide, rfl, _, _, rfl, rfl⟩
theorem test_witness_snapshot_addresses : (0x3FFF : Word).toNat < 0x4000 ∧ 0 < snapshotSize ∧ 49151 < snapshotSize
    ∧ State.reset.mem.wf = true := by decide

end Sys2Proof.Tests
end

/-! SUPPORT. The invariant, operation by operation: what each named operation over the state does to it, then what an instruction,
a step, an interrupt delivery and a move of the host do (10_state.md R41, 60_exceptions.md R436, log entry 1). -/

namespace Sys2Proof.Machine

variable {s : State}

/-! ## Updates of fields the invariant does not read -/

theorem State.Inv.withMain (h : s.Inv) (v : Bank) : (s.withMain v).Inv := ⟨h.memory, h.mode, h.flipFlops⟩
theorem State.Inv.withShadow (h : s.Inv) (v : Bank) : (s.withShadow v).Inv := ⟨h.memory, h.mode, h.flipFlops⟩
theorem State.Inv.withSp (h : s.Inv) (v : Word) : (s.withSp v).Inv := ⟨h.memory, h.mode, h.flipFlops⟩
theorem State.Inv.withPc (h : s.Inv) (v : Word) : (s.withPc v).Inv := ⟨h.memory, h.mode, h.flipFlops⟩
theorem State.Inv.withI (h : s.Inv) (v : Byte) : (s.withI v).Inv := ⟨h.memory, h.mode, h.flipFlops⟩
theorem State.Inv.withRlo (h : s.Inv) (v : BitVec 7) : (s.withRlo v).Inv := ⟨h.memory, h.mode, h.flipFlops⟩
theorem State.Inv.withHalted (h : s.Inv) (v : Bool) : (s.withHalted v).Inv := ⟨h.memory, h.mode, h.flipFlops⟩
theorem State.Inv.withCycles (h : s.Inv) (v : Nat) : (s.withCycles v).Inv := ⟨h.memory, h.mode, h.flipFlops⟩
theorem State.Inv.withThrottle (h : s.Inv) (v : Int) : (s.withThrottle v).Inv := ⟨h.memory, h.mode, h.flipFlops⟩
theorem State.Inv.withHorizon (h : s.Inv) (v : Nat) : (s.withHorizon v).Inv := ⟨h.memory, h.mode, h.flipFlops⟩
theorem State.Inv.withPorts (h : s.Inv) (v : PortDevice) : (s.withPorts v).Inv := ⟨h.memory, h.mode, h.flipFlops⟩
theorem State.Inv.withHooks (h : s.Inv) (v : List Word) : (s.withHooks v).Inv := ⟨h.memory, h.mode, h.flipFlops⟩
theorem State.Inv.drawn (h : s.Inv) : s.drawn.Inv := ⟨h.memory, h.mode, h.flipFlops⟩
theorem State.Inv.setRefresh (h : s.Inv) (v : Byte) : (s.setRefresh v).Inv := ⟨h.memory, h.mode, h.flipFlops⟩
theorem State.Inv.tick (h : s.Inv) (n : Nat) : (s.tick n).Inv := h.withCycles _

theorem State.Inv.setAF (h : s.Inv) (af : Byte × Byte) : (s.setAF af).Inv := (h.withMain _).withMain _

theorem State.Inv.setIdx (h : s.Inv) (x : Idx) (v : Word) : (s.setIdx x v).Inv := by
  cases x <;> exact ⟨h.memory, h.mode, h.flipFlops⟩

theorem State.Inv.setPair (h : s.Inv) (rp : RegPair) (v : Word) : (s.setPair rp v).Inv := by
  cases rp with
  | sp => exact h.withSp v
  | _ => exact h.withMain _

theorem State.Inv.setStackPair (h : s.Inv) (qq : StackPair) (v : Word) : (s.setStackPair qq v).Inv := by
  cases qq <;> exact h.withMain _

theorem State.Inv.copyTo (h : s.Inv) (copy : Option Reg8) (v : Byte) : (s.copyTo copy v).Inv := by
  cases copy with
  | none => exact h
  | some r => exact h.withMain _

theorem State.Inv.returnPc (h : s.Inv) : s.returnPc.Inv := (h.withSp _).withPc _

/-! ## Updates of the fields it reads: memory, the interrupt mode and the flip-flops -/

theorem State.Inv.writeByte (h : s.Inv) (a : Word) (v : Byte) : (s.writeByte a v).Inv :=
  ⟨State.writeByte_wf a v h.memory, h.mode, h.flipFlops⟩

theorem State.Inv.writeWord (h : s.Inv) (a v : Word) : (s.writeWord a v).Inv := (h.writeByte _ _).writeByte _ _

theorem State.Inv.push (h : s.Inv) (v : Word) : (s.push v).Inv := (h.withSp _).writeWord _ _

theorem State.Inv.writeBytes (h : s.Inv) (a : Word) (vs : List Byte) : (s.writeBytes a vs).Inv := by
  induction vs generalizing s a with
  | nil => exact h
  | cons v vs ih => exact ih (h.writeByte a v) (a + 1)

theorem State.Inv.writeOp (h : s.Inv) (o : Operand) (v : Byte) : (s.writeOp o v).Inv := by
  cases o with
  | reg r => exact h.withMain _
  | xh x => exact h.setIdx x _
  | xl x => exact h.setIdx x _
  | mem a => exact h.writeByte a v

theorem State.Inv.withIm (h : s.Inv) {v : BitVec 2} (hv : v ≠ 3) : (s.withIm v).Inv := ⟨h.memory, hv, h.flipFlops⟩

/-- Both flip-flops take one value (R394, R395, R434). -/
theorem State.Inv.withIffs (h : s.Inv) (v : Bool) : ((s.withIff1 v).withIff2 v).Inv := ⟨h.memory, h.mode, id⟩

/-- Clearing IFF1 alone is harmless (R436). -/
theorem State.Inv.clearIff1 (h : s.Inv) : (s.withIff1 false).Inv := ⟨h.memory, h.mode, nofun⟩

/-- IFF1 takes the value of IFF2 (R446). -/
theorem State.Inv.returnFromInterrupt (h : s.Inv) : s.returnFromInterrupt.Inv := ⟨h.memory, h.mode, id⟩

/-! ## Elements of the block instructions -/

theorem State.Inv.blockLd (h : s.Inv) (δ : Word) : (s.blockLd δ).Inv :=
  ((((h.writeByte _ _).withMain _).withMain _).withMain _).withMain _

theorem State.Inv.blockCp (h : s.Inv) (δ : Word) : (s.blockCp δ).Inv := ((h.withMain _).withMain _).withMain _

theorem State.Inv.blockIn (h : s.Inv) (δ : Word) (γ : Byte) : (s.blockIn δ γ).Inv :=
  (((h.drawn.writeByte _ _).withMain _).withMain _).withMain _

theorem State.Inv.blockOut (h : s.Inv) (δ : Word) : (s.blockOut δ).Inv :=
  (((h.withMain _).withPorts _).withMain _).withMain _

/-! ## Results -/

/-- The state answered, if one is, meets the invariant. -/
def AnswersInv (r : Result) : Prop := ∀ t, r = .next t → t.Inv

theorem AnswersInv.next (h : s.Inv) : AnswersInv (.next s) := by
  rintro t ⟨⟩
  exact h

theorem AnswersInv.fault (r : Fault) : AnswersInv (.fault r) := nofun

theorem AnswersInv.ite {c : Prop} [Decidable c] {r q : Result} (hr : AnswersInv r) (hq : AnswersInv q) :
    AnswersInv (if c then r else q) := by
  split
  · exact hr
  · exact hq

theorem State.Inv.done (h : s.Inv) (cost : Nat) : AnswersInv (done cost s) := .next (h.tick cost)

theorem State.Inv.finishBlock (h : s.Inv) (again : Bool) : AnswersInv (finishBlock again s) :=
  .ite ((h.withPc _).done 21) (h.done 16)

/-! ## Instructions -/

/-- The row that points to the indexed bit space does one of its four operations (R312). -/
theorem State.Inv.execIndexedBitSpace (h : s.Inv) (x : Idx) (d op : Byte) : AnswersInv (execIndexedBitSpace x d op s) := by
  unfold Machine.execIndexedBitSpace
  split
  · exact (h.withMain _).done 20
  · exact (((h.withMain _).writeByte _ _).copyTo _ _).done 23
  · exact ((h.writeByte _ _).copyTo _ _).done 23
  · exact ((h.writeByte _ _).copyTo _ _).done 23

/-- Every instruction keeps the invariant. The instructions are split by the operations over the state they are made of. -/
theorem State.Inv.exec (h : s.Inv) (i : Instr) : AnswersInv (exec i s) := by
  cases i with
  -- the interrupt mode and the flip-flops
  | im0 | im1 | im2 => exact (h.withIm (by decide)).done _
  | di | ei => exact (h.withIffs _).done _
  | retn | reti => exact h.returnFromInterrupt.done _
  -- nothing, or a control register
  | nop | edNop | prefixFallback | fallbackBeforeHalt => exact h.done _
  | halt => exact (h.withHalted _).done _
  | ldIA => exact (h.withI _).done _
  | ldRA => exact (h.setRefresh _).done _
  -- A and F
  | addAR | addAMHl | addAN | addAXd | addAXH | addAXL | adcAR | adcAMHl | adcAN | adcAXd | adcAXH | adcAXL
  | subR | subMHl | subN | subXd | subXH | subXL | sbcAR | sbcAMHl | sbcAN | sbcAXd | sbcAXH | sbcAXL
  | andR | andMHl | andN | andXd | andXH | andXL | xorR | xorMHl | xorN | xorXd | xorXH | xorXL
  | orR | orMHl | orN | orXd | orXH | orXL
  | daa | cpl | neg | rlca | rla | rrca | rra | ldAI | ldAR => exact (h.setAF _).done _
  | rld | rrd => exact ((h.writeByte _ _).setAF _).done _
  -- one write to the primary registers
  | cpR | cpMHl | cpN | cpXd | cpXH | cpXL | ccf | scf | bitR | bitXd | bitXdAlias
  | ldRR | ldRN | ldRMHl | ldRXd | ldAMBc | ldAMDe | ldAMNn | ldHlMNn => exact (h.withMain _).done _
  | bitMHl => exact (h.withMain _).drawn.done _
  | addHlRp | adcHlRp | sbcHlRp | exDeHl => exact ((h.withMain _).withMain _).done _
  | exAfAf | exx => exact ((h.withMain _).withShadow _).done _
  -- pairs and index registers
  | incRp | decRp | ldRpNn | ldRpMNn => exact (h.setPair _ _).done _
  | incX | decX | ldXNn | ldXMNn | ldXHN | ldXLN | ldXHR | ldXLR => exact (h.setIdx _ _).done _
  | addXRp => exact ((h.setIdx _ _).withMain _).done _
  | ldSpHl | ldSpX => exact (h.withSp _).done _
  -- operands
  | ldRXH | ldRXL | setR | setMHl | resR | resMHl => exact (h.writeOp _ _).done _
  | incR | incMHl | incXd | incXH | incXL | decR | decMHl | decXd | decXH | decXL
  | rlcR | rlcMHl | rrcR | rrcMHl | rlR | rlMHl | rrR | rrMHl
  | slaR | slaMHl | sraR | sraMHl | sllR | sllMHl | srlR | srlMHl => exact ((h.withMain _).writeOp _ _).done _
  | rlcXd | rlcXdR | rrcXd | rrcXdR | rlXd | rlXdR | rrXd | rrXdR | slaXd | slaXdR | sraXd | sraXdR
  | sllXd | sllXdR | srlXd | srlXdR => exact (((h.withMain _).writeByte _ _).copyTo _ _).done _
  | resXd | resXdR | setXd | setXdR => exact ((h.writeByte _ _).copyTo _ _).done _
  | indexedBitSpace x d op => exact h.execIndexedBitSpace x d op
  -- memory and the stack
  | ldMHlR | ldMHlN | ldXdR | ldXdN | ldMBcA | ldMDeA | ldMNnA => exact (h.writeByte _ _).done _
  | ldMNnHl | ldMNnX | ldMNnRp => exact (h.writeWord _ _).done _
  | pushQq | pushX => exact (h.push _).done _
  | popQq => exact ((h.withSp _).setStackPair _ _).done _
  | popX => exact ((h.withSp _).setIdx _ _).done _
  | exMSpHl => exact ((h.writeWord _ _).withMain _).done _
  | exMSpX => exact ((h.writeWord _ _).setIdx _ _).done _
  -- transfers of control
  | jpNn | jr | jpHl | jpX => exact (h.withPc _).done _
  | callNn | rst => exact ((h.push _).withPc _).done _
  | ret => exact h.returnPc.done _
  | jpCcNn cc nn =>
    have hpc : (if s.cond cc then s.withPc nn else s).Inv := by
      split
      · exact h.withPc nn
      · exact h
    exact hpc.done _
  | jrCc => exact .ite ((h.withPc _).done _) (h.done _)
  | djnz => exact .ite (((h.withMain _).withPc _).done _) ((h.withMain _).done _)
  | callCcNn => exact .ite (((h.push _).withPc _).done _) (h.done _)
  | retCc => exact .ite (h.returnPc.done _) (h.done _)
  -- ports
  | inAN | inFC => exact (h.drawn.withMain _).done _
  | inRC => exact ((h.drawn.withMain _).withMain _).done _
  | outNA | outCR | outC0 => exact (h.withPorts _).done _
  -- block instructions
  | ldi | ldd => exact (h.blockLd _).done _
  | ldir | lddr => exact (h.blockLd _).finishBlock _
  | cpi | cpd => exact (h.blockCp _).done _
  | cpir | cpdr => exact (h.blockCp _).finishBlock _
  | ini | ind => exact (h.blockIn _ _).done _
  | inir | indr => exact (h.blockIn _ _).finishBlock _
  | outi | outd => exact (h.blockOut _).done _
  | otir | otdr => exact (h.blockOut _).finishBlock _

/-! ## The step -/

theorem State.Inv.useThrottle (h : s.Inv) : s.useThrottle.Inv := by
  unfold State.useThrottle
  split
  · exact h.withThrottle _
  · exact h

theorem State.Inv.fetched (h : s.Inv) (size opcodeFetches : Nat) : (s.fetched size opcodeFetches).Inv :=
  ((h.withHooks _).withRlo _).withPc _

/-- The state a step has come to before the instruction's operation, if it has not stopped, meets the invariant. -/
def Begun.MeetsInv : Begun → Prop
  | .over t => t.Inv
  | .running _ t => t.Inv
  | .stopped _ => True

theorem State.Inv.fetch (h : s.Inv) : s.fetch.MeetsInv := by
  unfold State.fetch
  split
  · exact h.fetched _ _
  · trivial

theorem State.Inv.begin (h : s.Inv) : s.begin.MeetsInv := by
  unfold State.begin
  split
  · exact h
  · split
    · exact h.useThrottle.tick _
    · exact h.useThrottle.fetch

/-- Every step keeps the invariant. -/
theorem State.Inv.step (h : s.Inv) : AnswersInv (step s) := by
  have hb := h.begin
  unfold Machine.step
  generalize s.begin = b at hb
  match b, hb with
  | .over t, hb => exact .next hb
  | .running i t, hb => exact hb.exec i
  | .stopped r, _ => exact .fault r

/-! ## Interrupt delivery -/

theorem State.Inv.enterHandler (h : s.Inv) : s.enterHandler.Inv := ((h.withHalted _).withRlo _).push _

theorem State.Inv.acceptNmi (h : s.Inv) : AnswersInv (acceptNmi s) := (h.clearIff1.enterHandler.withPc _).done _

theorem State.Inv.acceptMaskable (h : s.Inv) (data : Byte) : AnswersInv (acceptMaskable data s) := by
  intro t ht
  obtain ⟨-, -, rfl⟩ := acceptMaskable_next ht
  exact ((h.withIffs false).enterHandler.withPc _).tick _

theorem State.Inv.accept (h : s.Inv) (nmi irq : Bool) (data : Byte) : AnswersInv (accept nmi irq data s) :=
  .ite h.acceptNmi (.ite (h.acceptMaskable data) (.next h))

/-! ## The host's moves -/

/-- The power-on values (R51), from an empty memory. -/
theorem State.inv_reset : State.reset.Inv := ⟨rfl, by decide, id⟩

/-- The host's reset gives IM and the flip-flops their power-on values and leaves memory alone (R470). -/
theorem State.Inv.hostReset (h : s.Inv) : s.hostReset.Inv :=
  ⟨h.memory, State.inv_reset.mode, State.inv_reset.flipFlops⟩

/-- A snapshot gives IFF1 and IFF2 one value, and the mode from the image (R92). -/
theorem State.Inv.restore (h : s.Inv) {p : Snapshot} (hp : p.im ≠ 3) : (s.restore p).Inv :=
  have hr : (s.restoreRegisters p).Inv := ⟨h.memory, hp, id⟩
  hr.writeBytes _ _

/-- Settles O11, by cases on the host's move; a step, by cases on the instruction. -/
theorem hostMovesKeepInvariant : Obligations.HostMovesKeepInvariant := by
  intro s t m h him ht
  have hm : AnswersInv (perform s m) := by
    cases m with
    | step => exact h.step
    | reset => exact .next h.hostReset
    | accept nmi irq data => exact h.accept nmi irq data
    | requestInterrupt => exact h.accept false true s.ackData
    | pollInterrupts => exact h.accept s.ports.nmiPending s.ports.irqPending s.ackData
    | restore p => exact .next (h.restore (him p rfl))
    | setThrottle n => exact .next (h.withThrottle n)
    | setHorizon n => exact .next (h.withHorizon n)
    | setCycles n => exact .next (h.withCycles n)
    | setPending nmi irq => exact .next (h.withPorts _)
    | setAckByte b => exact .next (h.withPorts _)
  exact hm t ht

end Sys2Proof.Machine

/-! SUPPORT. What an instruction may change: one table over the parts of the state, and the proof that no instruction changes
another part (10_state.md R33, R37-R42, R48, 20_memory.md R71); then the statements about the state. -/

namespace Sys2Proof.Machine

variable {i : Instr} {s t : State} {c : List Part} {m : List Word}

/-! ## Frames of the operations that only one instruction or a few use -/

theorem Frame.withI (s : State) (v : Byte) : Frame [.i] [] s (s.withI v) := by
  refine ⟨fun p hp => ?_, fun _ _ => rfl⟩
  cases p with
  | i => exact absurd (List.mem_singleton.2 rfl) hp
  | idx x => cases x <;> rfl
  | _ => rfl

theorem Frame.withIm (s : State) (v : BitVec 2) : Frame [.im] [] s (s.withIm v) := by
  refine ⟨fun p hp => ?_, fun _ _ => rfl⟩
  cases p with
  | im => exact absurd (List.mem_singleton.2 rfl) hp
  | idx x => cases x <;> rfl
  | _ => rfl

theorem Frame.withShadow (s : State) (v : Bank) : Frame [.shadow] [] s (s.withShadow v) := by
  refine ⟨fun p hp => ?_, fun _ _ => rfl⟩
  cases p with
  | shadow => exact absurd (List.mem_singleton.2 rfl) hp
  | idx x => cases x <;> rfl
  | _ => rfl

theorem Frame.setRefresh (s : State) (v : Byte) : Frame [.r7, .rlo] [] s (s.setRefresh v) := by
  refine ⟨fun p hp => ?_, fun _ _ => rfl⟩
  cases p with
  | r7 | rlo => exact absurd (by decide) hp
  | idx x => cases x <;> rfl
  | _ => rfl

/-- The primary registers but A and F are replaced, as EXX does (R225). -/
theorem Frame.withMainKeepAF (s : State) (k : Bank) :
    Frame [.reg .b, .reg .c, .reg .d, .reg .e, .reg .h, .reg .l] []
      s (s.withMain { k with a := s.main.a, f := s.main.f }) :=
  (((((Frame.setReg s .b k.b).trans (Frame.setReg _ .c k.c)).trans (Frame.setReg _ .d k.d)).trans
    (Frame.setReg _ .e k.e)).trans (Frame.setReg _ .h k.h)).trans (Frame.setReg _ .l k.l)

/-! ## The table -/

/-- The port instructions, and BIT b,(HL): those that count a draw (log entry 5). -/
def takesDraw : Instr → Bool
  | .bitMHl _ => true
  | i => reachesPorts i

/-- Whether an instruction may change a part. Any may change the 8-bit registers, IX, IY and SP; each other part is for the
instructions that its rule names. -/
def mayChange (i : Instr) : Part → Bool
  | .reg _ | .idx _ | .sp => true
  | .f => writesFlags i
  | .shadow => swapsShadow i
  | .pc => movesPc i
  | .i => decide (i = .ldIA)
  | .r7 | .rlo => decide (i = .ldRA)
  | .iff1 | .iff2 => writesFlipFlops i
  | .im => writesMode i
  | .halted => decide (i = .halt)
  | .ports => reachesPorts i
  | .draws => takesDraw i
  | .throttle | .horizon | .hooks => false

/-- The state answered, if one is, has every part that `i` may not change as it was. -/
def AnswersWithin (i : Instr) (s : State) (r : Result) : Prop :=
  ∀ t, r = .next t → ∀ p, mayChange i p = false → p.same s t

/-- A frame inside the table keeps what the table keeps, whatever the cost. -/
theorem Frame.answers_done (h : Frame c m s t) (cost : Nat) (hc : c.all (mayChange i) = true) :
    AnswersWithin i s (done cost t) := by
  rintro _ ⟨⟩ p hp
  have hpc : p ∉ c := fun q => by simp [List.all_eq_true.1 hc p q] at hp
  exact Part.same_trans (h.1 p hpc) ((Frame.tick t cost).1 p List.not_mem_nil)

theorem AnswersWithin.ite {b : Prop} [Decidable b] {r q : Result} (hr : AnswersWithin i s r) (hq : AnswersWithin i s q) :
    AnswersWithin i s (if b then r else q) := by
  split
  · exact hr
  · exact hq

/-- A block instruction that may go on changes the parts of its element, and PC. -/
theorem Frame.answers_finishBlock (h : Frame c m s t) (again : Bool) (hc : c.all (mayChange i) = true)
    (hpc : movesPc i = true) : AnswersWithin i s (finishBlock again t) :=
  .ite ((h.trans (Frame.withPc t _)).answers_done 21 (by simp [hc, mayChange, hpc])) (h.answers_done 16 hc)

/-! ## Lists of registers are inside the table for every instruction -/

theorem mayChange_pairParts (i : Instr) (rp : RegPair) : (pairParts rp).all (mayChange i) = true := by cases rp <;> rfl

theorem mayChange_operand (i : Instr) (o : Operand) : o.parts.all (mayChange i) = true := by cases o <;> rfl

theorem mayChange_copy (i : Instr) (copy : Option Reg8) : (copy.toList.map Part.reg).all (mayChange i) = true := by
  cases copy <;> rfl

/-- POP writes F only where the table says so, for AF (R222). -/
theorem mayChange_popQq (qq : StackPair) : (stackPairParts qq).all (mayChange (.popQq qq)) = true := by cases qq <;> rfl

/-! ## Instructions -/

/-- The row that points to the indexed bit space does one of its four operations (R312). -/
theorem answersWithin_execIndexedBitSpace (x : Idx) (d op : Byte) (s : State) :
    AnswersWithin (.indexedBitSpace x d op) s (execIndexedBitSpace x d op s) := by
  unfold execIndexedBitSpace
  split
  · exact (Frame.xcBit s _ _).answers_done 20 rfl
  · exact (Frame.xcRot s _ _ _).answers_done 23 (mayChange_copy _ _)
  · exact (Frame.xcRes s _ _ _).answers_done 23 (mayChange_copy _ _)
  · exact (Frame.xcSet s _ _ _).answers_done 23 (mayChange_copy _ _)

/-- No instruction changes a part that the table denies it. The instructions are split by the operations they are made of. -/
theorem answersWithin_exec (i : Instr) (s : State) : AnswersWithin i s (exec i s) := by
  cases i with
  -- nothing, or control registers
  | nop | edNop | prefixFallback | fallbackBeforeHalt => exact (Frame.refl s).answers_done _ rfl
  | halt => exact (Frame.withHalted s _).answers_done _ rfl
  | ldIA => exact (Frame.withI s _).answers_done _ rfl
  | ldRA => exact (Frame.setRefresh s _).answers_done _ rfl
  | im0 | im1 | im2 => exact (Frame.withIm s _).answers_done _ rfl
  | di | ei => exact ((Frame.withIff1 s _).trans (Frame.withIff2 _ _)).answers_done _ rfl
  | retn | reti => exact ((Frame.returnPc s).trans (Frame.withIff1 _ _)).answers_done _ rfl
  -- the shadow registers
  | exAfAf => exact ((Frame.setAF s (s.shadow.a, s.shadow.f)).trans (Frame.withShadow _ _)).answers_done _ rfl
  | exx => exact ((Frame.withMainKeepAF s s.shadow).trans (Frame.withShadow _ _)).answers_done _ rfl
  -- A and F
  | addAR | addAMHl | addAN | addAXd | addAXH | addAXL | adcAR | adcAMHl | adcAN | adcAXd | adcAXH | adcAXL
  | subR | subMHl | subN | subXd | subXH | subXL | sbcAR | sbcAMHl | sbcAN | sbcAXd | sbcAXH | sbcAXL
  | andR | andMHl | andN | andXd | andXH | andXL | xorR | xorMHl | xorN | xorXd | xorXH | xorXL
  | orR | orMHl | orN | orXd | orXH | orXL
  | daa | cpl | neg | rlca | rla | rrca | rra | ldAI | ldAR => exact (Frame.setAF s _).answers_done _ rfl
  | rld | rrd => exact ((Frame.writeByte s _ _).trans (Frame.setAF _ _)).answers_done _ rfl
  | cpR | cpMHl | cpN | cpXd | cpXH | cpXL | ccf | scf | bitR | bitXd | bitXdAlias =>
    exact (Frame.setF s _).answers_done _ rfl
  | bitMHl => exact ((Frame.setF s _).trans (Frame.drawn _)).answers_done _ rfl
  -- registers, pairs and index registers
  | ldRR | ldRN | ldRMHl | ldRXd => exact (Frame.setReg s _ _).answers_done _ rfl
  | ldAMBc | ldAMDe | ldAMNn => exact (Frame.setA s _).answers_done _ rfl
  | ldHlMNn => exact (Frame.setHl s _).answers_done _ rfl
  | exDeHl => exact ((Frame.setDe s _).trans (Frame.setHl _ _)).answers_done _ rfl
  | addHlRp | adcHlRp | sbcHlRp => exact ((Frame.setHl s _).trans (Frame.setF _ _)).answers_done _ rfl
  | incRp | decRp | ldRpNn | ldRpMNn => exact (Frame.setPair s _ _).answers_done _ (mayChange_pairParts _ _)
  | incX | decX | ldXNn | ldXMNn | ldXHN | ldXLN | ldXHR | ldXLR => exact (Frame.setIdx s _ _).answers_done _ rfl
  | addXRp => exact ((Frame.setIdx s _ _).trans (Frame.setF _ _)).answers_done _ rfl
  | ldSpHl | ldSpX => exact (Frame.withSp s _).answers_done _ rfl
  -- operands
  | ldRXH | ldRXL | setR | setMHl | resR | resMHl =>
    exact (Frame.writeOp s _ _).answers_done _ (mayChange_operand _ _)
  | incR | incMHl | incXd | incXH | incXL | decR | decMHl | decXd | decXH | decXL
  | rlcR | rlcMHl | rrcR | rrcMHl | rlR | rlMHl | rrR | rrMHl
  | slaR | slaMHl | sraR | sraMHl | sllR | sllMHl | srlR | srlMHl =>
    exact ((Frame.setF s _).trans (Frame.writeOp _ _ _)).answers_done _ rfl
  | rlcXd | rlcXdR | rrcXd | rrcXdR | rlXd | rlXdR | rrXd | rrXdR | slaXd | slaXdR | sraXd | sraXdR
  | sllXd | sllXdR | srlXd | srlXdR => exact (Frame.xcRot s _ _ _).answers_done _ rfl
  | resXd | resXdR => exact (Frame.xcRes s _ _ _).answers_done _ rfl
  | setXd | setXdR => exact (Frame.xcSet s _ _ _).answers_done _ rfl
  | indexedBitSpace x d op => exact answersWithin_execIndexedBitSpace x d op s
  -- memory and the stack
  | ldMHlR | ldMHlN | ldXdR | ldXdN | ldMBcA | ldMDeA | ldMNnA => exact (Frame.writeByte s _ _).answers_done _ rfl
  | ldMNnHl | ldMNnX | ldMNnRp => exact (Frame.writeWord s _ _).answers_done _ rfl
  | pushQq | pushX => exact (Frame.push s _).answers_done _ rfl
  | popQq => exact ((Frame.dropTop s).trans (Frame.setStackPair _ _ _)).answers_done _ (mayChange_popQq _)
  | popX => exact ((Frame.dropTop s).trans (Frame.setIdx _ _ _)).answers_done _ rfl
  | exMSpHl => exact ((Frame.writeWord s _ _).trans (Frame.setHl _ _)).answers_done _ rfl
  | exMSpX => exact ((Frame.writeWord s _ _).trans (Frame.setIdx _ _ _)).answers_done _ rfl
  -- transfers of control
  | jpNn | jpHl | jpX => exact (Frame.withPc s _).answers_done _ rfl
  | jr => exact (Frame.jumpRelative s _).answers_done _ rfl
  | callNn | rst => exact ((Frame.push s _).trans (Frame.withPc _ _)).answers_done _ rfl
  | ret => exact (Frame.returnPc s).answers_done _ rfl
  | jpCcNn cc nn =>
    show AnswersWithin _ s (done 10 (if s.cond cc then s.withPc nn else s))
    split
    · exact (Frame.withPc s nn).answers_done 10 rfl
    · exact (Frame.refl s).answers_done 10 rfl
  | jrCc => exact .ite ((Frame.jumpRelative s _).answers_done _ rfl) ((Frame.refl s).answers_done _ rfl)
  | djnz =>
    exact .ite (((Frame.setReg s .b _).trans (Frame.jumpRelative _ _)).answers_done _ rfl)
      ((Frame.setReg s .b _).answers_done _ rfl)
  | callCcNn =>
    exact .ite (((Frame.push s _).trans (Frame.withPc _ _)).answers_done _ rfl) ((Frame.refl s).answers_done _ rfl)
  | retCc => exact .ite ((Frame.returnPc s).answers_done _ rfl) ((Frame.refl s).answers_done _ rfl)
  -- ports
  | inAN => exact ((Frame.drawn s).trans (Frame.setA _ _)).answers_done _ rfl
  | inFC => exact ((Frame.drawn s).trans (Frame.setF _ _)).answers_done _ rfl
  | inRC => exact (((Frame.drawn s).trans (Frame.setReg _ _ _)).trans (Frame.setF _ _)).answers_done _ rfl
  | outNA | outCR | outC0 => exact (Frame.portWrite s _ _).answers_done _ rfl
  -- block instructions
  | ldi | ldd => exact (Frame.blockLd s _).answers_done _ rfl
  | ldir | lddr => exact (Frame.blockLd s _).answers_finishBlock _ rfl rfl
  | cpi | cpd => exact (Frame.blockCp s _).answers_done _ rfl
  | cpir | cpdr => exact (Frame.blockCp s _).answers_finishBlock _ rfl rfl
  | ini | ind => exact (Frame.blockIn s _ _).answers_done _ rfl
  | inir | indr => exact (Frame.blockIn s _ _).answers_finishBlock _ rfl rfl
  | outi | outd => exact (Frame.blockOut s _).answers_done _ rfl
  | otir | otdr => exact (Frame.blockOut s _).answers_finishBlock _ rfl rfl

/-- A part that the table denies an instruction is as it was. -/
theorem exec_keeps {p : Part} (h : exec i s = .next t) (hp : mayChange i p = false) : p.same s t :=
  answersWithin_exec i s t h p hp

theorem takesDraw_eq_false (hi : reachesPorts i = false) (hb : ∀ b, i ≠ .bitMHl b) : takesDraw i = false := by
  unfold takesDraw
  split
  · exact absurd rfl (hb _)
  · exact hi

/-- The instructions that write IM give it 0, 1 or 2 (R396-R398). -/
theorem im_ne_three_of_writesMode (h : exec i s = .next t) (hi : writesMode i = true) : t.im ≠ 3 := by
  cases i with
  | im0 | im1 | im2 =>
    cases h
    rw [State.tick_im, State.withIm_im]
    decide
  | _ => cases hi

/-! ## Which instructions change what -/

/-- Settles O14, from the table of the parts an instruction may change. -/
theorem shadowAndPortsOnlyByTheirInstructions : Obligations.ShadowAndPortsOnlyByTheirInstructions := by
  intro i s t h
  exact ⟨exec_keeps (p := .shadow) h, exec_keeps (p := .ports) h,
    fun hi hb => exec_keeps (p := .draws) h (takesDraw_eq_false hi hb)⟩

/-- Settles O15, from the table of the parts an instruction may change. -/
theorem controlRegisterWriters : Obligations.ControlRegisterWriters := by
  intro i s t h
  exact ⟨fun hi => exec_keeps (p := .i) h (decide_eq_false hi),
    fun hi => ⟨exec_keeps (p := .r7) h (decide_eq_false hi), exec_keeps (p := .rlo) h (decide_eq_false hi)⟩,
    exec_keeps (p := .im) h, im_ne_three_of_writesMode h,
    fun hi => exec_keeps (p := .halted) h (decide_eq_false hi),
    fun hi => ⟨exec_keeps (p := .iff1) h hi, exec_keeps (p := .iff2) h hi⟩⟩

/-- Settles O16, from the table of the parts an instruction may change. -/
theorem flagsOnlyByFlagWriters : Obligations.FlagsOnlyByFlagWriters :=
  fun _ _ _ h hi => exec_keeps (p := .f) h hi

/-- Settles O17, from the table of the parts an instruction may change. -/
theorem pcOnlyByControlTransfer : Obligations.PcOnlyByControlTransfer :=
  fun _ _ _ h hi => exec_keeps (p := .pc) h hi

/-! ## The invariant -/

/-- Settles O9, by cases on how the step begins and then on the instruction. -/
theorem stepKeepsInvariant : Obligations.StepKeepsInvariant := fun _ t h ht => h.step t ht

/-- Settles O10. -/
theorem resetMeetsInvariant : Obligations.ResetMeetsInvariant := State.inv_reset

/-! ## The step before its instruction -/

theorem State.useThrottle_eq (s : State) :
    s.useThrottle = s.withThrottle (if 0 < s.throttle then s.throttle - 1 else s.throttle) := by
  unfold State.useThrottle
  split <;> rfl

/-- Settles O7, from the two ways a step is over before it fetches. -/
theorem throttledAndHaltedSteps : Obligations.ThrottledAndHaltedSteps := by
  constructor
  · intro s h
    rw [step, State.begin_throttled h]
  · intro s h h'
    rw [step, State.begin_halted h h', State.useThrottle_eq]
    rfl

/-! ## Views of the registers -/

/-- R is R7 above the 7 bits of the counter (R38). -/
theorem State.toNat_refresh (s : State) : s.refresh.toNat = (if s.r7 then 128 else 0) + s.rlo.toNat := by
  have hlo := s.rlo.isLt
  have happ : s.refresh.toNat = (BitVec.ofBool s.r7).toNat <<< 7 ||| s.rlo.toNat := BitVec.toNat_append _ _
  rw [happ, ← Nat.shiftLeft_add_eq_or_of_lt hlo]
  cases s.r7 <;> rfl

/-- A write of R gives the counter the low seven bits (R214). -/
theorem State.toNat_rlo_setRefresh (s : State) (v : Byte) : (s.setRefresh v).rlo.toNat = v.toNat % 128 := by
  simp [State.setRefresh]

/-- Counting fetches wraps within the seven bits (R38). -/
theorem State.toNat_rlo_countRefresh (s : State) (n : Nat) : (s.countRefresh n).rlo.toNat = (s.rlo.toNat + n) % 128 := by
  simp [State.countRefresh, BitVec.toNat_add]

theorem State.idx_eq_halves (s : State) (x : Idx) : s.idx x = mkWord (s.xh x) (s.xl x) :=
  (mkWord_hiByte_loByte (s.idx x)).symm

/-- Settles O19, view by view. -/
theorem registerViews : Obligations.RegisterViews := by
  intro s w v n
  refine ⟨⟨rfl, rfl, rfl, rfl, s.idx_eq_halves⟩, fun rp => s.pair_setPair rp w, fun qq => s.stackPair_setStackPair qq w,
    ⟨rfl, rfl, rfl, rfl, rfl, rfl⟩, fun x => ⟨s.idx_setIdx x w, s.idx_setIdx x _, s.idx_setIdx x _⟩, s.toNat_refresh,
    s.refresh_setRefresh v, rfl, s.toNat_rlo_setRefresh v, rfl, s.toNat_rlo_countRefresh n⟩

/-! ## Construction and reset -/

/-- Settles O58: both sides are the power-on values (R51), and the two records the statement leaves open are kept. -/
theorem resetValues : Obligations.ResetValues :=
  ⟨⟨rfl, rfl, rfl, rfl, rfl, rfl, rfl, rfl, rfl, rfl, rfl, rfl, rfl, rfl, rfl, rfl⟩,
    fun s => ⟨s.hooks, s.draws, rfl⟩⟩

end Sys2Proof.Machine

/-! SUPPORT. Memory under a run of writes, the flag tables as flag bytes, and the input and output instructions (20_memory.md R74-R95,
40_alu_flags.md R151-R153, R173, 45_block_io_system.md R378-R387); then the statements about memory and ports. -/

namespace Sys2Proof.Machine

variable {i : Instr} {s : State}

/-! ## Bytes and words in memory -/

/-- Settles O18, from the laws of the bus; the word at 0xFFFF wraps by its definition. -/
theorem memoryReadsTheLastWrite : Obligations.MemoryReadsTheLastWrite := by
  intro s a b v w h
  exact ⟨s.readByte_writeByte_same a v h, s.readByte_writeByte_other v, s.readByte_writeWord_low a w h,
    s.readByte_writeWord_high a w h, s.readWord_writeWord a w h, s.readByte_writeWord_other w, rfl,
    s.writeByte_wf a v h, s.writeWord_wf a w h⟩

/-! ## A run of writes -/

/-- A run of writes replaces memory and nothing else. -/
theorem State.writeBytes_eq_withMem (s : State) (a : Word) (vs : List Byte) :
    s.writeBytes a vs = s.withMem (s.writeBytes a vs).mem := by
  induction vs generalizing s a with
  | nil => rfl
  | cons v vs ih => exact ih (s.writeByte a v) (a + 1)

/-- The address after the first, of a run of addresses. -/
theorem add_ofNat_succ (a : Word) (k : Nat) : a + BitVec.ofNat 16 (k + 1) = a + 1 + BitVec.ofNat 16 k := by
  rw [Nat.add_comm, BitVec.ofNat_add, BitVec.add_assoc]
  rfl

/-- A run that is shorter than the address space does not come back to the address before it. -/
theorem ne_add_one_add_ofNat (a : Word) {k : Nat} (hk : k < 65535) : a ≠ a + 1 + BitVec.ofNat 16 k := by
  bv_omega

/-- A run of writes leaves every address outside it alone. -/
theorem State.readByte_writeBytes_other (s : State) {a b : Word} {vs : List Byte}
    (h : ∀ k < vs.length, b ≠ a + BitVec.ofNat 16 k) : (s.writeBytes a vs).readByte b = s.readByte b := by
  induction vs generalizing s a with
  | nil => rfl
  | cons v vs ih =>
    have hhead : b ≠ a := by simpa using h 0 (Nat.succ_pos _)
    have htail : ∀ k < vs.length, b ≠ a + 1 + BitVec.ofNat 16 k := fun k hk => by
      rw [← add_ofNat_succ]
      exact h (k + 1) (Nat.succ_lt_succ hk)
    exact (ih _ htail).trans (s.readByte_writeByte_other v hhead)

/-- A run of writes that fits the address space is read back byte by byte (R82). -/
theorem State.readByte_writeBytes_get {s : State} (hs : s.mem.wf = true) (a : Word) {vs : List Byte}
    (hlen : vs.length ≤ 65536) {k : Nat} (hk : k < vs.length) :
    (s.writeBytes a vs).readByte (a + BitVec.ofNat 16 k) = vs[k] := by
  induction vs generalizing s a k with
  | nil => exact absurd hk (Nat.not_lt_zero k)
  | cons v vs ih =>
    rw [List.length_cons] at hlen hk
    cases k with
    | zero =>
      have hlast : ∀ j < vs.length, a ≠ a + 1 + BitVec.ofNat 16 j := fun j hj => ne_add_one_add_ofNat a (by omega)
      rw [BitVec.add_zero]
      exact ((s.writeByte a v).readByte_writeBytes_other hlast).trans (s.readByte_writeByte_same a v hs)
    | succ k =>
      rw [add_ofNat_succ]
      exact ih (s.writeByte_wf a v hs) (a + 1) (by omega) (by omega)

/-! ## Snapshot restore -/

/-- The registers of a restore read what it gave them, whatever memory becomes (R92). -/
theorem State.restore_eq_withMem (s : State) (p : Snapshot) :
    s.restore p = (s.restoreRegisters p).withMem (s.restore p).mem := State.writeBytes_eq_withMem _ _ _

theorem State.refresh_restoreRegisters (s : State) (p : Snapshot) : (s.restoreRegisters p).refresh = p.r := by
  rw [State.restoreRegisters, State.refresh_setRefresh]

theorem Snapshot.length_image (p : Snapshot) : p.image.toList.length = snapshotSize := p.image.length_toList

/-- The image starts at 0x4000 (R92). -/
theorem State.readByte_restore_below (s : State) (p : Snapshot) {a : Word} (ha : a.toNat < 0x4000) :
    (s.restore p).readByte a = s.readByte a := by
  refine State.readByte_writeBytes_other (s.restoreRegisters p) fun k hk e => ?_
  rw [p.length_image, snapshotSize] at hk
  have hn := congrArg BitVec.toNat e
  simp only [Config.snapshotBase, BitVec.ofNat_eq_ofNat, BitVec.toNat_add, BitVec.toNat_ofNat] at hn
  omega

/-- The image stands from 0x4000 on, in the order given (R92, R93). -/
theorem State.readByte_restore_image (hs : s.mem.wf = true) (p : Snapshot) {k : Nat} (hk : k < snapshotSize) :
    (s.restore p).readByte (BitVec.ofNat 16 (0x4000 + k)) = p.image[k] := by
  have hlen : p.image.toList.length ≤ 65536 := by rw [p.length_image, snapshotSize]; omega
  have hk' : k < p.image.toList.length := by rwa [p.length_image]
  rw [BitVec.ofNat_add, ← Vector.getElem_toList hk']
  exact State.readByte_writeBytes_get (s := s.restoreRegisters p) hs _ hlen hk'

/-- Settles O59: the image is a run of writes, and what it does not write is as the registers' restore leaves it. -/
theorem snapshotRestore : Obligations.SnapshotRestore := by
  intro s p
  have hbelow := fun a => s.readByte_restore_below p (a := a)
  have himage := fun hs k => State.readByte_restore_image (s := s) hs p (k := k)
  refine ⟨s.restore p, rfl, ?_⟩
  rw [s.restore_eq_withMem p] at hbelow himage ⊢
  exact ⟨rfl, rfl, rfl, rfl, rfl, rfl, rfl, s.refresh_restoreRegisters p, rfl, rfl, rfl, rfl, rfl, rfl, rfl, rfl, hbelow, himage⟩

/-! ## The flag tables as flag bytes -/

/-- Flag bytes join flag by flag. -/
theorem flagByte_or (s z f5 h f3 pv n c s' z' f5' h' f3' pv' n' c' : Bool) :
    flagByte s z f5 h f3 pv n c ||| flagByte s' z' f5' h' f3' pv' n' c' =
      flagByte (s || s') (z || z') (f5 || f5') (h || h') (f3 || f3') (pv || pv') (n || n') (c || c') := by
  apply byte_eq_of_bits <;>
    simp only [BitVec.getLsbD_or, getLsbD_flagByte_0, getLsbD_flagByte_1, getLsbD_flagByte_2, getLsbD_flagByte_3,
      getLsbD_flagByte_4, getLsbD_flagByte_5, getLsbD_flagByte_6, getLsbD_flagByte_7]

/-- `SZ53` in closed form (R151). -/
theorem sz53_eq_flagByte : ∀ v : Byte,
    sz53 v = flagByte (v.getLsbD 7) (v == 0) (v.getLsbD 5) false (v.getLsbD 3) false false false := by decide

/-- `PAR` in closed form (R152). -/
theorem par_eq_flagByte (v : Byte) : par v = flagByte false false false false false (evenOnes v) false false := by
  rw [par, evenOnes_eq_popCount]
  cases popCount v % 2 == 0 <;> rfl

theorem and_fC_eq_flagByte : ∀ f : Byte,
    f &&& fC = flagByte false false false false false false false (f.getLsbD 0) := by decide

/-- The flags of an input byte are those of its parity, with C kept (R379). -/
theorem sz53pKeepC_eq_parityFlags (v fin : Byte) : sz53pKeepC v fin = parityFlags v false false (fin.getLsbD 0) := by
  rw [sz53pKeepC, sz53p, and_fC_eq_flagByte, sz53_eq_flagByte, par_eq_flagByte]
  simp only [flagByte_or, Bool.false_or, Bool.or_false, parityFlags]

theorem ofNat_and_seven (k : Nat) : BitVec.ofNat 8 k &&& 7 = BitVec.ofNat 8 (k % 8) := by
  apply BitVec.eq_of_toNat_eq
  have h7 : k % 256 &&& 7 = k % 256 % 8 := Nat.and_two_pow_sub_one_eq_mod _ 3
  change k % 256 &&& 7 = k % 8 % 256
  omega

/-- The flags of the block inputs and outputs in closed form (R173). -/
theorem ioBlockFlags_eq_flagByte (v : Byte) (k : Nat) (b : Byte) :
    ioBlockFlags v k b = flagByte (b.getLsbD 7) (b == 0) (b.getLsbD 5) (decide (255 < k)) (b.getLsbD 3)
      (evenOnes (BitVec.ofNat 8 (k % 8) ^^^ b)) (v.getLsbD 7) (decide (255 < k)) := by
  have hN : flagIf (v.getLsbD 7) fN = flagByte false false false false false false (v.getLsbD 7) false := by
    cases v.getLsbD 7 <;> rfl
  have hHC : flagIf (decide (255 < k)) (fH ||| fC)
      = flagByte false false false (decide (255 < k)) false false false (decide (255 < k)) := by
    cases decide (255 < k) <;> rfl
  rw [ioBlockFlags, hN, hHC, sz53_eq_flagByte, par_eq_flagByte, ofNat_and_seven]
  simp only [flagByte_or, Bool.false_or, Bool.or_false]

/-! ## Encodings -/

/-- An instruction that is decoded from its encoding without looking at the byte after it. -/
theorem Encodes.ofRoundTrip (h : Laws.RoundTrip.Statement i) (hw : i.wellFormed = true) (hl : lookahead i = []) :
    Encodes (encode i) (opcodeFetches i) i := by
  intro rest
  have hd := h hw rest
  rwa [hl, List.append_nil] at hd

/-! ## Input and output -/

/-- Settles O52, instruction by instruction: each is one draw or one record of the port device, and register writes. -/
theorem inputAndOutput : Obligations.InputAndOutput := by
  refine ⟨fun n => ⟨.ofRoundTrip (Laws.RoundTrip.inAN n) rfl rfl, .ofRoundTrip (Laws.RoundTrip.outNA n) rfl rfl⟩,
    fun r => ⟨.ofRoundTrip (Laws.RoundTrip.inRC r) rfl rfl, .ofRoundTrip (Laws.RoundTrip.outCR r) rfl rfl⟩,
    .ofRoundTrip Laws.RoundTrip.inFC rfl rfl, .ofRoundTrip Laws.RoundTrip.outC0 rfl rfl, fun s => ⟨?_, ?_, ?_, ?_, ?_, ?_⟩⟩
  · intro n
    have hf := (Frame.drawn s).trans (Frame.setA s.drawn (s.portRead (s.portAn n)))
    exact ⟨_, Runs.ofDone rfl rfl (hf.mono (by simp) (by simp)), rfl, rfl⟩
  · intro r
    have hf := ((Frame.drawn s).trans (Frame.setReg s.drawn r (s.portRead s.bc))).trans
      (Frame.setF _ (sz53pKeepC (s.portRead s.bc) s.f))
    exact ⟨_, Runs.ofDone rfl rfl (hf.mono (by simp) (by simp)), by simp, rfl, sz53pKeepC_eq_parityFlags _ _⟩
  · have hf := (Frame.drawn s).trans (Frame.setF s.drawn (sz53pKeepC (s.portRead s.bc) s.f))
    exact ⟨_, Runs.ofDone rfl rfl (hf.mono (by simp) (by simp)), rfl, sz53pKeepC_eq_parityFlags _ _⟩
  · exact fun n => ⟨_, Runs.ofDone rfl rfl (Frame.portWrite s (s.portAn n) s.a), rfl⟩
  · exact fun r => ⟨_, Runs.ofDone rfl rfl (Frame.portWrite s s.bc (s.reg r)), rfl⟩
  · exact ⟨_, Runs.ofDone rfl rfl (Frame.portWrite s s.bc 0x00), rfl⟩

/-! ## Block input -/

/-- A block input is one element, then the end of a block instruction; a repeating form goes on while the new B is not 0
(R381-R384, R402). -/
theorem exec_blockInput {δ : Word} {γ : Byte} {repeats : Bool}
    (h : (i, δ, γ, repeats) ∈ [(Instr.ini, (1 : Word), (1 : Byte), false), (.inir, 1, 1, true), (.ind, -1, -1, false),
      (.indr, -1, -1, true)]) (s : State) :
    exec i s = finishBlock (repeats && s.reg .b - 1 != 0) (s.blockIn δ γ) := by
  simp only [List.mem_cons, List.not_mem_nil, or_false, Prod.mk.injEq] at h
  obtain ⟨rfl, rfl, rfl, rfl⟩ | ⟨rfl, rfl, rfl, rfl⟩ | ⟨rfl, rfl, rfl, rfl⟩ | ⟨rfl, rfl, rfl, rfl⟩ := h <;> rfl

@[simp] theorem State.hl_setF (s : State) (v : Byte) : (s.setF v).hl = s.hl := rfl

theorem State.hl_blockIn (s : State) (δ : Word) (γ : Byte) : (s.blockIn δ γ).hl = s.hl + δ := by
  simp [State.blockIn]

/-- The byte read is stored at HL, before HL steps (R381). -/
theorem State.readByte_blockIn (hs : s.mem.wf = true) (δ : Word) (γ : Byte) :
    (s.blockIn δ γ).readByte s.hl = s.portRead s.bc := State.readByte_writeByte_same (s := s.drawn) s.hl _ hs

/-- Settles O49: one element of the block, then the end of a block instruction. -/
theorem blockInput : Obligations.BlockInput := by
  refine ⟨.ofRoundTrip Laws.RoundTrip.ini rfl rfl, .ofRoundTrip Laws.RoundTrip.inir rfl rfl,
    .ofRoundTrip Laws.RoundTrip.ind rfl rfl, .ofRoundTrip Laws.RoundTrip.indr rfl rfl, ?_⟩
  rintro s i δ γ repeats _ _ _ hi rfl rfl rfl
  obtain ⟨t, ⟨hexec, hcycles, hframe⟩, hmain, hmem, hdraws, -, hpc⟩ :=
    Runs.ofFinishBlock (exec_blockInput hi s) rfl rfl (Frame.blockIn s δ γ)
  simp only [Bool.and_eq_true, bne_iff_ne] at hcycles hpc
  refine ⟨t, ⟨hexec, hcycles, hframe.mono (by simp) (by simp)⟩, fun hs => ?_, hdraws, ?_, ?_, hpc, ?_⟩
  · rw [State.readByte, hmem]
    exact State.readByte_blockIn hs δ γ
  · rw [State.hl, hmain]
    exact s.hl_blockIn δ γ
  · rw [State.reg, hmain]
    rfl
  · rw [State.f, hmain]
    exact ioBlockFlags_eq_flagByte _ _ _

end Sys2Proof.Machine

/-! SUPPORT. The encoder over all instructions, the decoder over all bytes, what a step runs, and the indexed bit space by its fields
(30_encoding.md R100-R126, 43_bit_rotate.md R312); with them the statements about the encoding. -/

namespace Sys2Proof.Laws.RoundTrip

/-- The round trip of every instruction, each by the lemma of its name. -/
theorem statement : ∀ i : Instr, Statement i
  | .nop => nop | .ldRpNn rp nn => ldRpNn rp nn | .ldMBcA => ldMBcA | .ldMDeA => ldMDeA | .ldMNnHl nn => ldMNnHl nn
  | .ldMNnA nn => ldMNnA nn | .incRp rp => incRp rp | .incMHl => incMHl | .decMHl => decMHl | .ldMHlN n => ldMHlN n
  | .incR r => incR r | .decR r => decR r | .ldRN r n => ldRN r n | .rlca => rlca | .rrca => rrca | .rla => rla
  | .rra => rra | .daa => daa | .cpl => cpl | .scf => scf | .ccf => ccf | .exAfAf => exAfAf
  | .addHlRp rp => addHlRp rp | .ldAMBc => ldAMBc | .ldAMDe => ldAMDe | .ldHlMNn nn => ldHlMNn nn
  | .ldAMNn nn => ldAMNn nn | .decRp rp => decRp rp | .djnz e => djnz e | .jr e => jr e | .jrCc cc e => jrCc cc e
  | .halt => halt | .ldMHlR q => ldMHlR q | .ldRMHl r => ldRMHl r | .ldRR r q => ldRR r q | .addAMHl => addAMHl
  | .addAR q => addAR q | .addAN n => addAN n | .adcAMHl => adcAMHl | .adcAR q => adcAR q | .adcAN n => adcAN n
  | .subMHl => subMHl | .subR q => subR q | .subN n => subN n | .sbcAMHl => sbcAMHl | .sbcAR q => sbcAR q
  | .sbcAN n => sbcAN n | .andMHl => andMHl | .andR q => andR q | .andN n => andN n | .xorMHl => xorMHl
  | .xorR q => xorR q | .xorN n => xorN n | .orMHl => orMHl | .orR q => orR q | .orN n => orN n | .cpMHl => cpMHl
  | .cpR q => cpR q | .cpN n => cpN n | .retCc cc => retCc cc | .popQq qq => popQq qq | .jpCcNn cc nn => jpCcNn cc nn
  | .jpNn nn => jpNn nn | .callCcNn cc nn => callCcNn cc nn | .pushQq qq => pushQq qq | .rst y => rst y | .ret => ret
  | .callNn nn => callNn nn | .outNA n => outNA n | .exx => exx | .inAN n => inAN n | .exMSpHl => exMSpHl
  | .jpHl => jpHl | .exDeHl => exDeHl | .di => di | .ldSpHl => ldSpHl | .ei => ei | .rlcMHl => rlcMHl
  | .rlcR q => rlcR q | .rrcMHl => rrcMHl | .rrcR q => rrcR q | .rlMHl => rlMHl | .rlR q => rlR q | .rrMHl => rrMHl
  | .rrR q => rrR q | .slaMHl => slaMHl | .slaR q => slaR q | .sraMHl => sraMHl | .sraR q => sraR q
  | .sllMHl => sllMHl | .sllR q => sllR q | .srlMHl => srlMHl | .srlR q => srlR q | .bitMHl b => bitMHl b
  | .bitR b q => bitR b q | .resMHl b => resMHl b | .resR b q => resR b q | .setMHl b => setMHl b
  | .setR b q => setR b q | .inFC => inFC | .inRC r => inRC r | .outC0 => outC0 | .outCR r => outCR r
  | .sbcHlRp rp => sbcHlRp rp | .adcHlRp rp => adcHlRp rp | .ldMNnRp rp nn => ldMNnRp rp nn
  | .ldRpMNn rp nn => ldRpMNn rp nn | .neg => neg | .reti => reti | .retn => retn | .im0 => im0 | .im1 => im1
  | .im2 => im2 | .ldIA => ldIA | .ldRA => ldRA | .ldAI => ldAI | .ldAR => ldAR | .rrd => rrd | .rld => rld
  | .ldi => ldi | .ldir => ldir | .ldd => ldd | .lddr => lddr | .cpi => cpi | .cpir => cpir | .cpd => cpd
  | .cpdr => cpdr | .ini => ini | .inir => inir | .ind => ind | .indr => indr | .outi => outi | .otir => otir
  | .outd => outd | .otdr => otdr | .edNop op => edNop op | .addXRp x rp => addXRp x rp | .ldXNn x nn => ldXNn x nn
  | .ldMNnX x nn => ldMNnX x nn | .incX x => incX x | .incXH x => incXH x | .decXH x => decXH x
  | .ldXHN x n => ldXHN x n | .ldXMNn x nn => ldXMNn x nn | .decX x => decX x | .incXL x => incXL x
  | .decXL x => decXL x | .ldXLN x n => ldXLN x n | .incXd x d => incXd x d | .decXd x d => decXd x d
  | .ldXdN x d n => ldXdN x d n | .fallbackBeforeHalt x => fallbackBeforeHalt x | .ldXdR x q d => ldXdR x q d
  | .ldRXd r x d => ldRXd r x d | .ldRXH r x => ldRXH r x | .ldRXL r x => ldRXL r x | .ldXHR x q => ldXHR x q
  | .ldXLR x q => ldXLR x q | .addAXd x d => addAXd x d | .addAXH x => addAXH x | .addAXL x => addAXL x
  | .adcAXd x d => adcAXd x d | .adcAXH x => adcAXH x | .adcAXL x => adcAXL x | .subXd x d => subXd x d
  | .subXH x => subXH x | .subXL x => subXL x | .sbcAXd x d => sbcAXd x d | .sbcAXH x => sbcAXH x
  | .sbcAXL x => sbcAXL x | .andXd x d => andXd x d | .andXH x => andXH x | .andXL x => andXL x
  | .xorXd x d => xorXd x d | .xorXH x => xorXH x | .xorXL x => xorXL x | .orXd x d => orXd x d | .orXH x => orXH x
  | .orXL x => orXL x | .cpXd x d => cpXd x d | .cpXH x => cpXH x | .cpXL x => cpXL x
  | .indexedBitSpace x d op => indexedBitSpace x d op | .popX x => popX x | .exMSpX x => exMSpX x
  | .pushX x => pushX x | .jpX x => jpX x | .ldSpX x => ldSpX x | .prefixFallback x nxt => prefixFallback x nxt
  | .rlcXd x d => rlcXd x d | .rlcXdR x d q => rlcXdR x d q | .rrcXd x d => rrcXd x d | .rrcXdR x d q => rrcXdR x d q
  | .rlXd x d => rlXd x d | .rlXdR x d q => rlXdR x d q | .rrXd x d => rrXd x d | .rrXdR x d q => rrXdR x d q
  | .slaXd x d => slaXd x d | .slaXdR x d q => slaXdR x d q | .sraXd x d => sraXd x d | .sraXdR x d q => sraXdR x d q
  | .sllXd x d => sllXd x d | .sllXdR x d q => sllXdR x d q | .srlXd x d => srlXd x d | .srlXdR x d q => srlXdR x d q
  | .bitXd x d b => bitXd x d b | .bitXdAlias x d b z => bitXdAlias x d b z | .resXd x d b => resXd x d b
  | .resXdR x d b q => resXdR x d b q | .setXd x d b => setXd x d b | .setXdR x d b q => setXdR x d b q

/-- Settles O1, by cases on the instruction. -/
theorem decodeEncodeRoundTrip : Obligations.DecodeEncodeRoundTrip := statement

end Sys2Proof.Laws.RoundTrip

namespace Sys2Proof

open Machine

/-! ## What an opcode byte selects -/

/-- How many operand bytes come after the opcode (R102). -/
def Build.operands : Build → Nat
  | .whole _ => 0
  | .byte _ => 1
  | .word _ | .dispByte _ => 2

/-- The instruction with 0 for every operand. -/
def Build.zeroed : Build → Instr
  | .whole i => i
  | .byte f => f 0
  | .word f => f 0
  | .dispByte f => f 0 0

/-- The operand bytes do not matter to whether the instruction is well formed. -/
def Build.OperandsFree : Build → Prop
  | .whole _ => True
  | .byte f => ∀ n, (f n).wellFormed = (f 0).wellFormed
  | .word f => ∀ w, (f w).wellFormed = (f 0).wellFormed
  | .dispByte f => ∀ d n, (f d n).wellFormed = (f 0 0).wellFormed

/-- With operand bytes enough, the instruction is complete. -/
theorem Build.finish_eq_ok {b : Build} (hb : b.OperandsFree) (hz : b.zeroed.wellFormed = true) (size fetches : Nat)
    {rest : List Byte} (hr : b.operands ≤ rest.length) :
    ∃ i, b.finish size fetches rest = .ok ⟨i, size + b.operands, fetches⟩ ∧ i.wellFormed = true := by
  match b, rest, hr with
  | .whole i, _, _ => exact ⟨i, rfl, hz⟩
  | .byte f, n :: _, _ => exact ⟨f n, rfl, (hb n).trans hz⟩
  | .word f, lo :: hi :: _, _ => exact ⟨f (mkWord hi lo), rfl, (hb _).trans hz⟩
  | .dispByte f, d :: n :: _, _ => exact ⟨f d n, rfl, (hb d n).trans hz⟩

/-- In no row do the operand bytes matter to well-formedness: a check that looks at opcodes alone is enough. -/
def OperandsFree (rows : List Row) : Prop := ∀ r ∈ rows, ∀ op, ∀ b ∈ r.build op, b.OperandsFree

@[simp] theorem operandsFree_nil : OperandsFree [] := List.forall_mem_nil _

@[simp] theorem operandsFree_cons {r : Row} {rows : List Row} :
    OperandsFree (r :: rows) ↔ (∀ op, ∀ b ∈ r.build op, b.OperandsFree) ∧ OperandsFree rows := List.forall_mem_cons

theorem operandsFree_of_select {rows : List Row} (h : OperandsFree rows) {op : Byte} {b : Build}
    (hb : select rows op = some b) : b.OperandsFree := by
  induction rows with
  | nil => cases hb
  | cons r rs ih =>
    obtain ⟨hr, hrs⟩ := operandsFree_cons.1 h
    rw [select] at hb
    split at hb
    · exact hr op b hb
    · exact ih hrs hb

theorem operandsFree_baseRows : OperandsFree baseRows := by
  simp [baseRows, baseRows1, baseRows2, baseRows3, baseRows4, Build.OperandsFree, Instr.wellFormed,
    Option.bind_eq_some_iff, forall_comm (α := Build)]

theorem operandsFree_cbRows : OperandsFree cbRows := by
  simp [cbRows, cbRows1, cbRows2, Build.OperandsFree]

theorem operandsFree_edRows : OperandsFree edRows := by
  simp [edRows, edRows1, edRows2, Build.OperandsFree, Instr.wellFormed]

theorem operandsFree_idxRows (x : Idx) : OperandsFree (idxRows x) := by
  simp [idxRows, idxRows1, idxRows2, idxRows3, Build.OperandsFree, Instr.wellFormed]

theorem operandsFree_idxCbRows (x : Idx) : OperandsFree (idxCbRows x) := by
  simp [idxCbRows, idxCbRows1, idxCbRows2, Build.OperandsFree, Instr.wellFormed]

/-- The rows have an instruction for the opcode: it is well formed with 0 for its operands, and it is `length` bytes long, `size`
of them before the operands. -/
def selectsLength (rows : List Row) (size : Nat) (op : Byte) (length : Nat) : Bool :=
  match select rows op with
  | some b => b.zeroed.wellFormed && size + b.operands == length
  | none => false

theorem decodeRows_eq_ok {rows : List Row} {size : Nat} {op : Byte} {length : Nat} (hrows : OperandsFree rows)
    (h : selectsLength rows size op length = true) (fetches : Nat) {rest : List Byte} (hr : length ≤ size + rest.length) :
    ∃ i, decodeRows rows size fetches op rest = .ok ⟨i, length, fetches⟩ ∧ i.wellFormed = true := by
  unfold selectsLength at h
  split at h
  next b hb =>
    rw [Bool.and_eq_true, beq_iff_eq] at h
    obtain ⟨hz, rfl⟩ := h
    rw [decodeRows, hb]
    exact Build.finish_eq_ok (operandsFree_of_select hrows hb) hz size fetches (Nat.le_of_add_le_add_left hr)
  next => cases h

/-! ## The opcodes of each space -/

theorem selectsLength_baseRows : ∀ op : Byte, op ≠ 0xCB → op ≠ 0xED → op ≠ 0xDD → op ≠ 0xFD →
    selectsLength baseRows 1 op (baseLength op) = true := by decide

theorem selectsLength_cbRows : ∀ op : Byte, selectsLength cbRows 2 op 2 = true := by decide

theorem selectsLength_edRows : ∀ op : Byte, selectsLength edRows 2 op (lengthOf 0xED op) = true := by decide

theorem selectsLength_idxRows (x : Idx) : ∀ op : Byte, usesHL op = true → op ≠ 0xCB →
    selectsLength (idxRows x) 2 op (1 + baseLength op + if hasDisplacement op then 1 else 0) = true := by
  cases x <;> decide

theorem selectsLength_idxCbRows (x : Idx) : ∀ op : Byte, selectsLength (idxCbRows x) 3 op 4 = true := by
  cases x <;> decide

theorem baseLength_pos : ∀ op : Byte, 1 ≤ baseLength op := by decide

theorem baseLength_add_displacement_le : ∀ op : Byte, baseLength op + (if hasDisplacement op then 1 else 0) ≤ 3 := by
  decide

/-! ## The length from the first two bytes (R125) -/

theorem lengthOf_fallback (x : Idx) {op : Byte} (h : usesHL op = false) : lengthOf x.prefixByte op = 1 := by
  cases x <;> exact if_pos h

theorem lengthOf_idxCb (x : Idx) : lengthOf x.prefixByte 0xCB = 4 := by cases x <;> rfl

theorem lengthOf_idx (x : Idx) {op : Byte} (hu : usesHL op = true) (hcb : op ≠ 0xCB) :
    lengthOf x.prefixByte op = 1 + baseLength op + if hasDisplacement op then 1 else 0 := by
  have hu' : usesHL op ≠ false := by simp [hu]
  cases x <;> exact (if_neg hu').trans (if_neg hcb)

theorem lengthOf_base {b0 : Byte} (b1 : Byte) (hcb : b0 ≠ 0xCB) (hed : b0 ≠ 0xED) (hdd : b0 ≠ 0xDD) (hfd : b0 ≠ 0xFD) :
    lengthOf b0 b1 = baseLength b0 := by
  simp only [lengthOf, hcb, hed, hdd, hfd, or_self, if_false]

theorem lengthOf_bounds (b0 b1 : Byte) : 1 ≤ lengthOf b0 b1 ∧ lengthOf b0 b1 ≤ 4 := by
  have hpos := baseLength_pos b0
  have hbase := baseLength_add_displacement_le b0
  have hidx := baseLength_add_displacement_le b1
  unfold lengthOf
  generalize (if hasDisplacement b1 then 1 else 0 : Nat) = displacement at hidx ⊢
  repeat' split
  all_goals omega

/-! ## All bytes decode -/

theorem wellFormed_prefixFallback (x : Idx) {op : Byte} (hu : usesHL op = false) (hne : op ≠ 0x76) :
    (Instr.prefixFallback x op).wellFormed = true := by
  rw [Instr.wellFormed, hu, bne_iff_ne.2 hne]
  rfl

theorem decodeIndex_eq_ok (x : Idx) (b1 b2 b3 : Byte) (rest : List Byte) :
    ∃ i f, decodeIndex x (b1 :: b2 :: b3 :: rest) = .ok ⟨i, lengthOf x.prefixByte b1, f⟩ ∧ i.wellFormed = true := by
  have hlen := (lengthOf_bounds x.prefixByte b1).2
  by_cases hhalt : b1 = 0x76
  · subst hhalt
    rw [lengthOf_fallback x rfl]
    exact ⟨_, _, rfl, rfl⟩
  by_cases hu : usesHL b1 = false
  · rw [lengthOf_fallback x hu]
    exact ⟨_, _, (if_neg hhalt).trans (if_pos hu), wellFormed_prefixFallback x hu hhalt⟩
  by_cases hcb : b1 = 0xCB
  · subst hcb
    obtain ⟨i, hd, hw⟩ := decodeRows_eq_ok (operandsFree_idxCbRows x) (selectsLength_idxCbRows x b3) 2 (rest := b2 :: rest)
      (by simp only [List.length_cons]; omega)
    rw [lengthOf_idxCb]
    exact ⟨i, 2, hd, hw⟩
  · have hu' : usesHL b1 = true := by rwa [Bool.not_eq_false] at hu
    rw [lengthOf_idx x hu' hcb] at hlen ⊢
    obtain ⟨i, hd, hw⟩ := decodeRows_eq_ok (operandsFree_idxRows x) (selectsLength_idxRows x b1 hu' hcb) 2
      (rest := b2 :: b3 :: rest) (by simp only [List.length_cons]; omega)
    exact ⟨i, 2, ((if_neg hhalt).trans ((if_neg hu).trans (if_neg hcb))).trans hd, hw⟩

/-- Any four bytes decode to a well-formed instruction of the length R125 finds (R123). -/
theorem decode_eq_ok (b0 b1 b2 b3 : Byte) (rest : List Byte) :
    ∃ i f, decode (b0 :: b1 :: b2 :: b3 :: rest) = .ok ⟨i, lengthOf b0 b1, f⟩ ∧ i.wellFormed = true := by
  have hlen := (lengthOf_bounds b0 b1).2
  by_cases hcb : b0 = 0xCB
  · subst hcb
    obtain ⟨i, hd, hw⟩ := decodeRows_eq_ok operandsFree_cbRows (selectsLength_cbRows b1) 2 (rest := b2 :: b3 :: rest)
      (by simp only [List.length_cons]; omega)
    exact ⟨i, 2, hd, hw⟩
  by_cases hed : b0 = 0xED
  · subst hed
    obtain ⟨i, hd, hw⟩ := decodeRows_eq_ok operandsFree_edRows (selectsLength_edRows b1) 2 (rest := b2 :: b3 :: rest)
      (by simp only [List.length_cons]; omega)
    exact ⟨i, 2, hd, hw⟩
  by_cases hdd : b0 = 0xDD
  · subst hdd
    exact decodeIndex_eq_ok .ix b1 b2 b3 rest
  by_cases hfd : b0 = 0xFD
  · subst hfd
    exact decodeIndex_eq_ok .iy b1 b2 b3 rest
  · rw [lengthOf_base b1 hcb hed hdd hfd] at hlen ⊢
    obtain ⟨i, hd, hw⟩ := decodeRows_eq_ok operandsFree_baseRows (selectsLength_baseRows b0 hcb hed hdd hfd) 1
      (rest := b1 :: b2 :: b3 :: rest) (by simp only [List.length_cons]; omega)
    refine ⟨i, 1, ?_, hw⟩
    rwa [decode, if_neg hcb, if_neg hed, if_neg hdd, if_neg hfd]

/-- Settles O2, space by space. -/
theorem everyByteSequenceDecodes : Obligations.EveryByteSequenceDecodes := by
  intro b0 b1 b2 b3 rest
  obtain ⟨i, f, hd, hw⟩ := decode_eq_ok b0 b1 b2 b3 rest
  obtain ⟨hpos, hle⟩ := lengthOf_bounds b0 b1
  exact ⟨_, hd, hw, hpos, hle, rfl⟩

end Sys2Proof

namespace Sys2Proof.Machine

open Laws

/-! ## The fallback and the CB space -/

set_option maxRecDepth 10000 in
/-- The count R114 gives. -/
theorem countP_usesHL : (List.range 256).countP (fun n => usesHL (BitVec.ofNat 8 n)) = 86 := by decide

/-- Settles O4; the fallback is the round trip of its two rows. -/
theorem fallbackBytes : Obligations.FallbackBytes := by
  refine ⟨countP_usesHL, by decide, fun op hu hne x rest => ?_, fun x rest => RoundTrip.fallbackBeforeHalt x rfl rest⟩
  exact RoundTrip.prefixFallback x op (wellFormed_prefixFallback x hu hne) rest

/-- An instruction that looks at no byte after it is decoded from its encoding. -/
theorem encodes_encode (i : Instr) (hw : i.wellFormed = true) (hl : lookahead i = []) :
    Encodes (encode i) (opcodeFetches i) i := .ofRoundTrip (RoundTrip.statement i) hw hl

/-- Settles O5: each encoding is that of its instruction. -/
theorem cbSpaceByFields : Obligations.CbSpaceByFields :=
  ⟨fun q => ⟨encodes_encode (.rlcR q) rfl rfl, encodes_encode (.rrcR q) rfl rfl, encodes_encode (.rlR q) rfl rfl,
      encodes_encode (.rrR q) rfl rfl, encodes_encode (.slaR q) rfl rfl, encodes_encode (.sraR q) rfl rfl,
      encodes_encode (.sllR q) rfl rfl, encodes_encode (.srlR q) rfl rfl⟩,
    ⟨encodes_encode .rlcMHl rfl rfl, encodes_encode .rrcMHl rfl rfl, encodes_encode .rlMHl rfl rfl,
      encodes_encode .rrMHl rfl rfl, encodes_encode .slaMHl rfl rfl, encodes_encode .sraMHl rfl rfl,
      encodes_encode .sllMHl rfl rfl, encodes_encode .srlMHl rfl rfl⟩,
    fun y => ⟨fun q => ⟨encodes_encode (.bitR y q) rfl rfl, encodes_encode (.resR y q) rfl rfl,
        encodes_encode (.setR y q) rfl rfl⟩,
      encodes_encode (.bitMHl y) rfl rfl, encodes_encode (.resMHl y) rfl rfl, encodes_encode (.setMHl y) rfl rfl⟩⟩

/-! ## The step -/

/-- Settles O6, from how a step that is not over begins. -/
theorem stepRunsDecodedInstruction : Obligations.StepRunsDecodedInstruction := by
  intro s d ht hh hd
  rw [step, State.begin_running ht hh hd, State.useThrottle_eq, State.fetched, hookCalls_eq_map]
  rfl

/-- The result is a next state. -/
def Answers (r : Result) : Prop := ∃ t, r = .next t

theorem Answers.done (cost : Nat) (s : State) : Answers (done cost s) := ⟨_, rfl⟩

theorem Answers.ite {c : Prop} [Decidable c] {r q : Result} (hr : Answers r) (hq : Answers q) :
    Answers (if c then r else q) := by
  split
  · exact hr
  · exact hq

theorem Answers.finishBlock (again : Bool) (s : State) : Answers (finishBlock again s) := .ite (.done 21 _) (.done 16 s)

/-- Every instruction ends with its cost, on each of its paths (R448). -/
theorem answers_exec (i : Instr) (s : State) : Answers (exec i s) := by
  cases i with
  | jrCc | djnz | callCcNn | retCc => exact .ite (.done _ _) (.done _ _)
  | ldir | lddr | cpir | cpdr | inir | indr | otir | otdr => exact .finishBlock _ _
  | indexedBitSpace x d op =>
    show Answers (execIndexedBitSpace x d op s)
    unfold execIndexedBitSpace
    split <;> exact .done _ _
  | _ => exact .done _ _

/-- Settles O8: a step that fetches decodes the four bytes from PC on, and the instruction answers. -/
theorem everyStepCompletes : Obligations.EveryStepCompletes := by
  intro s
  by_cases ht : s.throttle = 0
  · exact ⟨s, by rw [step, State.begin_throttled ht]⟩
  cases hh : s.halted with
  | true => exact ⟨_, by rw [step, State.begin_halted ht hh]⟩
  | false =>
    obtain ⟨i, f, hd, -⟩ := decode_eq_ok (s.readByte s.pc) (s.readByte (s.pc + 1)) (s.readByte (s.pc + 2))
      (s.readByte (s.pc + 3)) []
    rw [step, State.begin_running ht hh hd]
    exact answers_exec i _

/-! ## The fields of a byte -/

/-- The code z of a plain register, 6 for none (R106). -/
def regCode (z : Option Reg8) : BitVec 3 := z.elim 0b110#3 Reg8.code

@[simp] theorem ofCode_regCode (z : Option Reg8) : Reg8.ofCode (regCode z) = z := by
  cases z with
  | none => rfl
  | some r => cases r <;> rfl

@[simp] theorem ofCode_code_index8 (y : Index8) : Index8.ofCode y.code = y := by cases y <;> rfl

/-- A byte is its fields x, y and z side by side (R104). -/
theorem byte_eq_fields : ∀ op : Byte,
    op = op.extractLsb' 6 2 ++ (Index8.ofCode (fieldY op)).code ++ regCode (Reg8.ofCode (fieldZ op)) := by decide

theorem fieldX_append : ∀ (x : BitVec 2) (y z : BitVec 3), (x ++ y ++ z).extractLsb' 6 2 = x := by decide

theorem fieldY_append : ∀ (x : BitVec 2) (y z : BitVec 3), fieldY (x ++ y ++ z) = y := by decide

theorem fieldZ_append : ∀ (x : BitVec 2) (y z : BitVec 3), fieldZ (x ++ y ++ z) = z := by decide

/-! ## The indexed bit space by its fields (R312) -/

section
variable (x : Idx) (d : Byte) (y : Index8) (z : Option Reg8) (s : State)

theorem exec_indexedBitSpace_rot : exec (.indexedBitSpace x d (0b00#2 ++ y.code ++ regCode z)) s
    = done 23 (s.xcRot (RotOp.ofCode y.code) (s.ea x d) z) := by
  show execIndexedBitSpace x d _ s = _
  simp only [execIndexedBitSpace, fieldX_append, fieldY_append, fieldZ_append, ofCode_regCode]
  rfl

theorem exec_indexedBitSpace_bit : exec (.indexedBitSpace x d (0b01#2 ++ y.code ++ regCode z)) s
    = done 20 (s.xcBit y (s.ea x d)) := by
  show execIndexedBitSpace x d _ s = _
  simp only [execIndexedBitSpace, fieldX_append, fieldY_append, fieldZ_append, ofCode_code_index8]
  rfl

theorem exec_indexedBitSpace_res : exec (.indexedBitSpace x d (0b10#2 ++ y.code ++ regCode z)) s
    = done 23 (s.xcRes y (s.ea x d) z) := by
  show execIndexedBitSpace x d _ s = _
  simp only [execIndexedBitSpace, fieldX_append, fieldY_append, fieldZ_append, ofCode_regCode, ofCode_code_index8]
  rfl

theorem exec_indexedBitSpace_set : exec (.indexedBitSpace x d (0b11#2 ++ y.code ++ regCode z)) s
    = done 23 (s.xcSet y (s.ea x d) z) := by
  show execIndexedBitSpace x d _ s = _
  simp only [execIndexedBitSpace, fieldX_append, fieldY_append, fieldZ_append, ofCode_regCode, ofCode_code_index8]
  rfl

end

/-! ## The rows of the indexed bit space -/

/-- A row of the indexed bit space decodes with two opcode fetches (R103). -/
theorem decode_indexedBit {x : Idx} {d op : Byte} {i : Instr} (hi : encode i = [x.prefixByte, 0xCB, d, op])
    (hl : lookahead i = []) (hw : i.wellFormed = true) (rest : List Byte) :
    decode (x.prefixByte :: 0xCB :: d :: op :: rest) = .ok ⟨i, 4, 2⟩ := by
  have hd := encodes_encode i hw hl rest
  have hf : opcodeFetches i = 2 := by
    rw [opcodeFetches, hl, hi]
    cases x <;> rfl
  rwa [hf, hi] at hd

/-- The rotate and shift rows, by their operation and the register copied to. -/
def rotateXd (x : Idx) (d : Byte) : RotOp → Option Reg8 → Instr
  | .rlc, none => .rlcXd x d | .rlc, some q => .rlcXdR x d q
  | .rrc, none => .rrcXd x d | .rrc, some q => .rrcXdR x d q
  | .rl, none => .rlXd x d | .rl, some q => .rlXdR x d q
  | .rr, none => .rrXd x d | .rr, some q => .rrXdR x d q
  | .sla, none => .slaXd x d | .sla, some q => .slaXdR x d q
  | .sra, none => .sraXd x d | .sra, some q => .sraXdR x d q
  | .sll, none => .sllXd x d | .sll, some q => .sllXdR x d q
  | .srl, none => .srlXd x d | .srl, some q => .srlXdR x d q

section
variable (x : Idx) (d : Byte) (y : Index8) (z : Option Reg8)

theorem encode_rotateXd : encode (rotateXd x d (RotOp.ofCode y.code) z)
    = [x.prefixByte, 0xCB, d, 0b00#2 ++ y.code ++ regCode z] := by
  cases y <;> cases z <;> rfl

theorem lookahead_rotateXd (op : RotOp) : lookahead (rotateXd x d op z) = [] := by cases op <;> cases z <;> rfl

theorem wellFormed_rotateXd (op : RotOp) : (rotateXd x d op z).wellFormed = true := by cases op <;> cases z <;> rfl

theorem exec_rotateXd (op : RotOp) (s : State) : exec (rotateXd x d op z) s = done 23 (s.xcRot op (s.ea x d) z) := by
  cases op <;> cases z <;> rfl

/-- Every final byte has a row, which does what the fields of the byte say (R120, R312). -/
theorem exists_indexedBit_row (f : BitVec 2) :
    ∃ i, encode i = [x.prefixByte, 0xCB, d, f ++ y.code ++ regCode z] ∧ lookahead i = [] ∧ i.wellFormed = true
      ∧ ∀ s, exec i s = exec (.indexedBitSpace x d (f ++ y.code ++ regCode z)) s := by
  have hf : ∀ f : BitVec 2, f = 0b00#2 ∨ f = 0b01#2 ∨ f = 0b10#2 ∨ f = 0b11#2 := by decide
  obtain rfl | rfl | rfl | rfl := hf f
  · exact ⟨rotateXd x d (RotOp.ofCode y.code) z, encode_rotateXd x d y z, lookahead_rotateXd x d z _,
      wellFormed_rotateXd x d z _, fun s => by rw [exec_rotateXd, exec_indexedBitSpace_rot]⟩
  · have he s := (exec_indexedBitSpace_bit x d y z s).symm
    cases z with
    | none => exact ⟨.bitXd x d y, rfl, rfl, rfl, he⟩
    | some q => exact ⟨.bitXdAlias x d y q, rfl, rfl, rfl, he⟩
  · have he s := (exec_indexedBitSpace_res x d y z s).symm
    cases z with
    | none => exact ⟨.resXd x d y, rfl, rfl, rfl, he⟩
    | some q => exact ⟨.resXdR x d y q, rfl, rfl, rfl, he⟩
  · have he s := (exec_indexedBitSpace_set x d y z s).symm
    cases z with
    | none => exact ⟨.setXd x d y, rfl, rfl, rfl, he⟩
    | some q => exact ⟨.setXdR x d y q, rfl, rfl, rfl, he⟩

theorem indexedBit_decodes (op : Byte) (rest : List Byte) :
    ∃ i, decode (x.prefixByte :: 0xCB :: d :: op :: rest) = .ok ⟨i, 4, 2⟩
      ∧ ∀ s : State, exec i s = exec (.indexedBitSpace x d op) s := by
  rw [byte_eq_fields op]
  obtain ⟨i, hi, hl, hw, he⟩ := exists_indexedBit_row x d (Index8.ofCode (fieldY op)) (Reg8.ofCode (fieldZ op))
    (op.extractLsb' 6 2)
  exact ⟨i, decode_indexedBit hi hl hw rest, he⟩

end

/-! ## The copy to a register -/

@[simp] theorem State.cycles_copyTo (s : State) (z : Option Reg8) (v : Byte) : (s.copyTo z v).cycles = s.cycles := by
  cases z <;> rfl

@[simp] theorem State.f_copyTo (s : State) (z : Option Reg8) (v : Byte) : (s.copyTo z v).main.f = s.main.f := by
  cases z with
  | none => rfl
  | some r => exact State.f_setReg s r v

@[simp] theorem State.readByte_copyTo (s : State) (z : Option Reg8) (v : Byte) (a : Word) :
    (s.copyTo z v).readByte a = s.readByte a := by
  cases z <;> rfl

@[simp] theorem State.reg_copyTo_some (s : State) (r : Reg8) (v : Byte) : (s.copyTo (some r) v).reg r = v :=
  State.reg_setReg_same s r v

/-- The result is in memory and in the register, in whatever state F was left (R312). -/
theorem holds_and_reg_of_store_copy {s u : State} {a : Word} {z : Option Reg8} {v : Byte} {n : Nat} (hu : u.mem = s.mem) :
    Holds s (((u.writeByte a v).copyTo z v).tick n) a v
      ∧ ∀ r, z = some r → (((u.writeByte a v).copyTo z v).tick n).reg r = v := by
  constructor
  · intro hs
    rw [State.readByte_tick, State.readByte_copyTo, State.readByte_writeByte_same]
    rwa [hu]
  · rintro r rfl
    rw [State.reg_tick, State.reg_copyTo_some]

/-! ## Rotates, shifts and BIT in closed form -/

/-- `Bit` in closed form (R168). -/
theorem bitTest_eq_bitFlags (b : Index8) (v u fin : Byte) : bitTest b v u fin = bitFlags b v u fin := by
  have hH : fH = flagByte false false false true false false false false := by decide
  have hu : ∀ u : Byte, u &&& (f5 ||| f3) = flagByte false false (u.getLsbD 5) false (u.getLsbD 3) false false false := by
    decide
  have hZ : ∀ c, flagIf c (fZ ||| fPV) = flagByte false c false false false c false false := by decide
  have hS : ∀ c, flagIf c fS = flagByte c false false false false false false false := by decide
  rw [bitTest, and_fC_eq_flagByte, hH, hu, hZ, hS]
  simp only [flagByte_or, Bool.false_or, Bool.or_false, bitFlags]

/-- The result of a rotate or shift, as bits put side by side (R166). -/
theorem rotResult_eq_shifted (op : RotOp) (v : Byte) (cin : Bool) : rotResult op v cin = (shifted op v cin).1 := by
  cases op <;> cases cin <;> revert v <;> decide

theorem rotCarry_eq_shifted (op : RotOp) (v : Byte) (cin : Bool) : rotCarry op v = (shifted op v cin).2 := by
  cases op <;> rfl

/-- `Rot` in closed form (R166). -/
theorem rot_eq_shifted (op : RotOp) (v : Byte) (cin : Bool) :
    rot op v cin = ((shifted op v cin).1, parityFlags (shifted op v cin).1 false false (shifted op v cin).2) := by
  have hC : ∀ c, flagIf c fC = flagByte false false false false false false false c := by decide
  rw [rot, rotResult_eq_shifted, rotCarry_eq_shifted op v cin, sz53p, sz53_eq_flagByte, par_eq_flagByte, hC]
  simp only [flagByte_or, Bool.false_or, Bool.or_false, parityFlags]

/-- A rotate or shift of the indexed bit space in closed form (R312). -/
theorem State.xcRot_eq (s : State) (op : RotOp) (a : Word) (z : Option Reg8) :
    let r := shifted op (s.readByte a) (s.f.getLsbD 0)
    s.xcRot op a z = ((s.setF (parityFlags r.1 false false r.2)).writeByte a r.1).copyTo z r.1 := by
  rw [State.xcRot, s.carry_eq, rot_eq_shifted]

/-- Settles O42: the decoding row by row, and the four operations of the space. -/
theorem indexedBitSpace : Obligations.IndexedBitSpace := by
  refine ⟨indexedBit_decodes, ?_⟩
  rintro s x d y z _ _ rfl rfl
  refine ⟨⟨_, Runs.ofDone (exec_indexedBitSpace_bit x d y z s) rfl (Frame.xcBit s _ _), bitTest_eq_bitFlags _ _ _ _⟩,
    ⟨_, Runs.ofDone (exec_indexedBitSpace_res x d y z s) (State.cycles_copyTo _ _ _) (Frame.xcRes s _ _ _),
      holds_and_reg_of_store_copy rfl⟩,
    ⟨_, Runs.ofDone (exec_indexedBitSpace_set x d y z s) (State.cycles_copyTo _ _ _) (Frame.xcSet s _ _ _),
      holds_and_reg_of_store_copy rfl⟩, ?_⟩
  have hframe : Frame (z.toList.map Part.reg ++ [Part.f]) [s.ea x d] s (s.xcRot (RotOp.ofCode y.code) (s.ea x d) z) :=
    (Frame.xcRot s _ _ z).mono (by simp [or_comm]) fun _ => id
  refine ⟨_, Runs.ofDone (exec_indexedBitSpace_rot x d y z s) (State.cycles_copyTo _ _ _) hframe, ?_⟩
  rw [State.xcRot_eq, ← and_assoc]
  exact ⟨holds_and_reg_of_store_copy rfl, State.f_copyTo _ _ _⟩

end Sys2Proof.Machine

/-! SUPPORT. The add and subtract primitives in closed form: carries and overflow from the bits of operands and result, and subtraction as
the addition of the complement (40_alu_flags.md R154-R158); then the statements about the flag tables, ADD then SUB, and DAA. -/

namespace Sys2Proof.Machine

/-! ## The carry lookup -/

/-- An index of the 8-entry tables from the bits of the operands and of the result (R154). -/
def index3 (a b r : Bool) : Byte := flagIf a 1 ||| flagIf b 2 ||| flagIf r 4

/-- The low half of the lookup is the index of the bits 3. -/
theorem carryIndex_and_seven (a b r : Byte) :
    carryIndex a b r &&& 7 = index3 (a.getLsbD 3) (b.getLsbD 3) (r.getLsbD 3) := by
  apply byte_eq_of_bits <;> simp [carryIndex, index3, getLsbD_flagIf, -BitVec.getLsbD_eq_getElem]

/-- The high half of the lookup is the index of the bits 7. -/
theorem carryIndex_shiftRight_four (a b r : Byte) :
    carryIndex a b r >>> 4 = index3 (a.getLsbD 7) (b.getLsbD 7) (r.getLsbD 7) := by
  apply byte_eq_of_bits <;> simp [carryIndex, index3, getLsbD_flagIf, -BitVec.getLsbD_eq_getElem]

theorem hcAdd_index3 : ∀ a b r, hcAdd (index3 a b r) = flagIf (Bool.atLeastTwo a b !r) fH := by decide

theorem hcSub_index3 : ∀ a b r, hcSub (index3 a b r) = flagIf (!Bool.atLeastTwo a (!b) !r) fH := by decide

theorem ovAdd_index3 : ∀ a b r, ovAdd (index3 a b r) = flagIf ((a ^^ !b) && (a ^^ r)) fPV := by decide

theorem ovSub_index3 : ∀ a b r, ovSub (index3 a b r) = flagIf ((a ^^ b) && (a ^^ r)) fPV := by decide

/-! ## Single flags as flag bytes -/

theorem flagIf_fC (c : Bool) : flagIf c fC = flagByte false false false false false false false c := by cases c <;> rfl

theorem flagIf_fH (c : Bool) : flagIf c fH = flagByte false false false c false false false false := by cases c <;> rfl

theorem flagIf_fPV (c : Bool) : flagIf c fPV = flagByte false false false false false c false false := by cases c <;> rfl

theorem fN_eq_flagByte : fN = flagByte false false false false false false true false := rfl

/-! ## Subtraction is the addition of the complement -/

theorem toNat_not_byte (b : Byte) : (~~~b).toNat = 255 - b.toNat := BitVec.toNat_not

theorem differenceOf_eq_sumOf_not (a b : Byte) (cin : Bool) : differenceOf a b cin = sumOf a (~~~b) !cin := by
  apply BitVec.eq_of_toNat_eq
  have hb := b.isLt
  cases cin <;> simp only [differenceOf, sumOf, BitVec.toNat_sub, BitVec.toNat_ofNat, toNat_not_byte, Bool.not_true,
    Bool.not_false, Bool.toNat_true, Bool.toNat_false] <;> omega

theorem halfBorrow_eq_not_halfCarry (a b : Byte) (cin : Bool) : halfBorrow a b cin = !halfCarry a (~~~b) !cin := by
  have hb := b.isLt
  simp only [halfBorrow, halfCarry, toNat_not_byte, ← decide_not, decide_eq_decide]
  cases cin <;> simp only [Bool.not_true, Bool.not_false, Bool.toNat_true, Bool.toNat_false] <;> omega

theorem subOverflows_eq_addOverflows_not (a b r : Byte) : subOverflows a b r = addOverflows a (~~~b) r := by
  rw [subOverflows, addOverflows, BitVec.not_not]

/-! ## Carries and overflow from the bits of operands and result -/

theorem halfCarry_eq_carry (a b : Byte) (cin : Bool) : halfCarry a b cin = BitVec.carry 4 a b cin := rfl

theorem sumOf_eq_add (a b : Byte) (cin : Bool) : sumOf a b cin = a + b + (BitVec.ofBool cin).setWidth 8 := by
  rw [sumOf, BitVec.ofNat_add, BitVec.ofNat_add, BitVec.ofNat_toNat, BitVec.ofNat_toNat, BitVec.setWidth_eq,
    BitVec.setWidth_eq]
  cases cin <;> rfl

/-- The carry out of bit 3 is set where two of both operands' bits and the complement of the result's bit are. -/
theorem atLeastTwo_bit_three (a b : Byte) (cin : Bool) :
    Bool.atLeastTwo (a.getLsbD 3) (b.getLsbD 3) (!(sumOf a b cin).getLsbD 3) = halfCarry a b cin := by
  rw [sumOf_eq_add, BitVec.getLsbD_add_add_bool (by decide), halfCarry_eq_carry,
    BitVec.carry_succ 3]
  cases a.getLsbD 3 <;> cases b.getLsbD 3 <;> cases BitVec.carry 3 a b cin <;> rfl

theorem addOverflows_eq_bits (a b r : Byte) :
    addOverflows a b r = ((a.getLsbD 7 ^^ !b.getLsbD 7) && (a.getLsbD 7 ^^ r.getLsbD 7)) := by
  have h : addOverflows a b r = ((a ^^^ ~~~b) &&& (a ^^^ r)).getLsbD 7 := hasFlag_fS _
  rw [h, BitVec.getLsbD_and, BitVec.getLsbD_xor, BitVec.getLsbD_xor, BitVec.getLsbD_not]
  rfl

theorem getLsbD_seven : ∀ v : Byte, v.getLsbD 7 = decide (128 ≤ v.toNat) := BitVec.msb_eq_decide

/-- Overflow is a sum outside the signed range (R155). -/
theorem addOverflows_sumOf (a b : Byte) (cin : Bool) : addOverflows a b (sumOf a b cin) = true ↔
    (a.toInt + b.toInt + cin.toNat < -128 ∨ 127 < a.toInt + b.toInt + cin.toNat) := by
  have hr : (sumOf a b cin).toNat = (a.toNat + b.toNat + cin.toNat) % 256 := BitVec.toNat_ofNat _ _
  have ha := a.isLt
  have hb := b.isLt
  have hc := cin.toNat_le
  simp only [addOverflows_eq_bits, getLsbD_seven, BitVec.toInt_eq_toNat_cond, hr, Bool.and_eq_true, bne_iff_ne, ne_eq,
    ← decide_not, decide_eq_decide]
  split <;> split <;> omega

theorem toInt_not_byte (b : Byte) : (~~~b).toInt = -1 - b.toInt := by
  have hb := b.isLt
  simp only [BitVec.toInt_eq_toNat_cond, toNat_not_byte]
  split <;> split <;> omega

/-- Overflow is a difference outside the signed range (R155). -/
theorem subOverflows_differenceOf (a b : Byte) (cin : Bool) : subOverflows a b (differenceOf a b cin) = true ↔
    (a.toInt - b.toInt - cin.toNat < -128 ∨ 127 < a.toInt - b.toInt - cin.toNat) := by
  have hsum : a.toInt + (~~~b).toInt + ((!cin).toNat : Int) = a.toInt - b.toInt - cin.toNat := by
    rw [toInt_not_byte]
    cases cin <;> simp <;> omega
  rw [subOverflows_eq_addOverflows_not, differenceOf_eq_sumOf_not, addOverflows_sumOf, hsum]

/-! ## `Add8` and `Sub8` in closed form -/

/-- `Add8` in closed form (R157). -/
theorem add8_eq (a b : Byte) (cin : Bool) : add8 a b cin = (sumOf a b cin, addFlags a b cin) := by
  rw [add8, ← sumOf, carryIndex_and_seven, carryIndex_shiftRight_four, hcAdd_index3, ovAdd_index3, atLeastTwo_bit_three,
    ← addOverflows_eq_bits, flagIf_fC, flagIf_fH, flagIf_fPV, sz53_eq_flagByte]
  simp only [flagByte_or, Bool.false_or, Bool.or_false, addFlags]

/-- The difference over the integers, modulo 256 (R158). -/
theorem ofInt_sub_eq_differenceOf (a b : Byte) (cin : Bool) :
    BitVec.ofInt 8 ((a.toNat : Int) - b.toNat - cin.toNat) = differenceOf a b cin := by
  have ha := a.isLt
  have hb := b.isLt
  apply BitVec.eq_of_toNat_eq
  cases cin <;> simp only [differenceOf, BitVec.toNat_ofInt, BitVec.toNat_sub, BitVec.toNat_ofNat, Bool.toNat_true,
    Bool.toNat_false] <;> omega

/-- `Sub8` in closed form (R158). -/
theorem sub8_eq (a b : Byte) (cin : Bool) : sub8 a b cin = (differenceOf a b cin, subFlags a b cin) := by
  have hH : (!Bool.atLeastTwo (a.getLsbD 3) (!b.getLsbD 3) (!(differenceOf a b cin).getLsbD 3)) = halfBorrow a b cin := by
    rw [halfBorrow_eq_not_halfCarry, ← atLeastTwo_bit_three, differenceOf_eq_sumOf_not, BitVec.getLsbD_not]
    rfl
  have hPV : ((a.getLsbD 7 ^^ b.getLsbD 7) && (a.getLsbD 7 ^^ (differenceOf a b cin).getLsbD 7))
      = subOverflows a b (differenceOf a b cin) := by
    rw [subOverflows_eq_addOverflows_not, addOverflows_eq_bits, BitVec.getLsbD_not]
    simp
  have hC : decide ((a.toNat : Int) - b.toNat - cin.toNat < 0) = decide (a.toNat < b.toNat + cin.toNat) := by
    rw [decide_eq_decide]
    omega
  rw [sub8, ofInt_sub_eq_differenceOf, carryIndex_and_seven, carryIndex_shiftRight_four, hcSub_index3, ovSub_index3, hH, hPV,
    hC, flagIf_fC, flagIf_fH, flagIf_fPV, fN_eq_flagByte, sz53_eq_flagByte]
  simp only [flagByte_or, Bool.false_or, Bool.or_false, subFlags, subFlagsFrom]

/-- Settles O20: the tables as flag bytes, and both primitives by their carries bit by bit. -/
theorem flagTablesAndClosedForms : Obligations.FlagTablesAndClosedForms :=
  ⟨fun v => ⟨sz53_eq_flagByte v, par_eq_flagByte v, rfl⟩, fun a b cin =>
    ⟨add8_eq a b cin, sub8_eq a b cin, addOverflows_sumOf a b cin, subOverflows_differenceOf a b cin⟩⟩

/-! ## Addition, then subtraction -/

theorem differenceOf_sumOf (a b : Byte) : differenceOf (sumOf a b false) b false = a := by
  have hcin : (BitVec.ofBool false).setWidth 8 = 0#8 := rfl
  have hno : BitVec.ofNat 8 false.toNat = 0#8 := rfl
  rw [differenceOf, sumOf_eq_add, hcin, hno, BitVec.add_zero, BitVec.sub_zero, BitVec.add_sub_cancel]

/-- Settles O21, from the closed forms. -/
theorem addThenSubtract : Obligations.AddThenSubtract := by
  intro a b
  have hr : (sumOf a b false).toNat = (a.toNat + b.toNat) % 256 := BitVec.toNat_ofNat _ _
  have ha := a.isLt
  have hb := b.isLt
  rw [add8_eq, sub8_eq, hasFlag_fC, hasFlag_fZ, hasFlag_fN, subFlags, subFlagsFrom, getLsbD_flagByte_0, getLsbD_flagByte_6,
    getLsbD_flagByte_1, differenceOf_sumOf, decide_eq_true_iff, hr, beq_iff_eq]
  refine ⟨rfl, ?_, Iff.rfl, rfl⟩
  simp only [Bool.toNat_false]
  omega

/-! ## DAA after an addition -/

theorem hasFlag_fC_addFlags (a b : Byte) (cin : Bool) :
    hasFlag (addFlags a b cin) fC = decide (255 < a.toNat + b.toNat + cin.toNat) := by
  rw [hasFlag_fC, addFlags, getLsbD_flagByte_0]

theorem hasFlag_fN_addFlags (a b : Byte) (cin : Bool) : hasFlag (addFlags a b cin) fN = false := by
  rw [hasFlag_fN, addFlags, getLsbD_flagByte_1]

theorem hasFlag_fH_addFlags (a b : Byte) (cin : Bool) : hasFlag (addFlags a b cin) fH = halfCarry a b cin := by
  rw [hasFlag_fH, addFlags, getLsbD_flagByte_4]

/-- DAA adds its correction where N is clear (R170). -/
theorem daa_fst_of_not_fN {a f : Byte} (h : hasFlag f fN = false) : (daa a f).1 = sumOf a (daaCorrection a f) false := by
  rw [daa, h, add8_eq]
  rfl

/-- DAA sets C where it was set or the byte is above 0x99 (R170). -/
theorem hasFlag_fC_daa (a f : Byte) : hasFlag (daa a f).2 fC = (hasFlag f fC || decide (0x99 < a.toNat)) := by
  rw [hasFlag_fC (daa a f).2, daa]
  simp [getLsbD_flagIf, par, fC, fPV, -BitVec.getLsbD_eq_getElem]

theorem toNat_flagIf_or_flagIf : ∀ low high : Bool, (flagIf low 0x06 ||| flagIf high 0x60).toNat =
    (if low = true then 6 else 0) + if high = true then 0x60 else 0 := by decide

/-- The two digits' corrections add up (R170). -/
theorem toNat_daaCorrection (a f : Byte) : (daaCorrection a f).toNat =
    (if hasFlag f fH = true ∨ 9 < a.toNat % 16 then 6 else 0) + if hasFlag f fC = true ∨ 0x99 < a.toNat then 0x60 else 0 := by
  have hlow : (a &&& 0x0F).toNat = a.toNat % 16 := Nat.and_two_pow_sub_one_eq_mod _ 4
  rw [daaCorrection, hlow, toNat_flagIf_or_flagIf]
  simp only [Bool.or_eq_true, decide_eq_true_eq]

/-- DAA of the binary sum `16 h + l` of two digit pairs, with `h` and `l` the sums of the high and of the low digits: the low
digit is corrected from ten on, the high one from a hundred on. -/
theorem daa_of_digit_sums {r f : Byte} {h l : Nat} (hh : h ≤ 18) (hl : l ≤ 19) (hr : r.toNat = (16 * h + l) % 256)
    (hN : hasFlag f fN = false) (hH : hasFlag f fH = true ↔ 15 < l) (hC : hasFlag f fC = true ↔ 255 < 16 * h + l) :
    (daa r f).1 = BitVec.ofNat 8 (16 * ((10 * h + l) / 10 % 10) + (10 * h + l) % 10)
      ∧ (hasFlag (daa r f).2 fC = true ↔ 100 ≤ 10 * h + l) := by
  have hlow : hasFlag f fH = true ∨ 9 < r.toNat % 16 ↔ 10 ≤ l := by
    rw [hH, hr]
    omega
  have hhigh : hasFlag f fC = true ∨ 0x99 < r.toNat ↔ 100 ≤ 10 * h + l := by
    rw [hC, hr]
    omega
  constructor
  · rw [daa_fst_of_not_fN hN, sumOf, toNat_daaCorrection]
    simp only [hlow, hhigh, Bool.toNat_false]
    rw [hr]
    apply BitVec.eq_of_toNat_eq
    simp only [BitVec.toNat_ofNat]
    split <;> split <;> omega
  · rw [hasFlag_fC_daa, Bool.or_eq_true, decide_eq_true_iff]
    exact hhigh

/-- Settles O22: the flags of the addition say what the digit sums are. -/
theorem daaCorrectsBcdAddition : Obligations.DaaCorrectsBcdAddition := by
  intro h1 l1 h2 l2 cin sum rf
  have hcin := cin.toNat_le
  have ha : (BitVec.ofNat 8 (16 * h1.val + l1.val)).toNat = 16 * h1.val + l1.val := Nat.mod_eq_of_lt (by omega)
  have hb : (BitVec.ofNat 8 (16 * h2.val + l2.val)).toNat = 16 * h2.val + l2.val := Nat.mod_eq_of_lt (by omega)
  have hsum : sum = 10 * (h1.val + h2.val) + (l1.val + l2.val + cin.toNat) := by omega
  rw [hsum, show rf = _ from add8_eq _ _ _]
  apply daa_of_digit_sums (by omega) (by omega)
  · rw [sumOf, BitVec.toNat_ofNat, ha, hb]
    congr 1
    omega
  · exact hasFlag_fN_addFlags _ _ _
  · rw [hasFlag_fH_addFlags, halfCarry, decide_eq_true_iff, ha, hb]
    omega
  · rw [hasFlag_fC_addFlags, decide_eq_true_iff, ha, hb]
    omega

end Sys2Proof.Machine

/-! SUPPORT. Rotates, shifts and single bits of a register, of (HL) and of (X+d): one lemma per shared operation, for every instruction
that is that operation (43_bit_rotate.md R300-R312); then the statements about them. -/

namespace Sys2Proof.Machine

variable {i : Instr} {cost : Nat} {z : Option Reg8} {address : State → Word}

/-! ## Rotates and shifts -/

/-- A rotate or shift of an operand in closed form (R166, R300-R307). -/
theorem State.rotOp_eq (s : State) (op : RotOp) (o : Operand) :
    let r := shifted op (s.readOp o) (s.f.getLsbD 0)
    s.rotOp op o = (s.setF (parityFlags r.1 false false r.2)).writeOp o r.1 := by
  rw [State.rotOp, s.carry_eq, rot_eq_shifted]

/-- An instruction that is a rotate or shift of a register. -/
theorem writesRegF_of_rotOp {op : RotOp} {q : Reg8} (h : ∀ s, exec i s = done cost (s.rotOp op (.reg q))) :
    WritesRegF i cost q (fun s v => (shifted op v (s.f.getLsbD 0)).1)
      (fun s v => parityFlags (shifted op v (s.f.getLsbD 0)).1 false false (shifted op v (s.f.getLsbD 0)).2) := by
  intro s
  have hframe : Frame [.reg q, .f] [] s (s.rotOp op (.reg q)) :=
    (Frame.rotOp s op (.reg q)).mono (by simp [Operand.parts]) fun _ => id
  refine ⟨_, Runs.ofDone (h s) rfl hframe, ?_⟩
  rw [State.rotOp_eq]
  exact ⟨State.reg_setReg_same _ q _, State.f_setReg _ q _⟩

/-- An instruction that is a rotate or shift of the byte at an address. -/
theorem storesF_of_rotOp {op : RotOp} (h : ∀ s, exec i s = done cost (s.rotOp op (.mem (address s)))) :
    StoresF i cost address (fun s v => (shifted op v (s.f.getLsbD 0)).1)
      (fun s v => parityFlags (shifted op v (s.f.getLsbD 0)).1 false false (shifted op v (s.f.getLsbD 0)).2) := by
  intro s
  refine ⟨_, Runs.ofDone (h s) rfl (Frame.rotOp s op (.mem (address s))), ?_⟩
  rw [State.rotOp_eq]
  exact ⟨State.readByte_writeByte_same (s := s.setF _) (address s) _, rfl⟩

/-- Settles O38: each instruction is a rotate or shift of its operand. -/
theorem rotateRegisterOrMemory : Obligations.RotateRegisterOrMemory :=
  ⟨fun _ => writesRegF_of_rotOp fun _ => rfl, fun _ => writesRegF_of_rotOp fun _ => rfl,
    fun _ => writesRegF_of_rotOp fun _ => rfl, fun _ => writesRegF_of_rotOp fun _ => rfl,
    fun _ => writesRegF_of_rotOp fun _ => rfl, fun _ => writesRegF_of_rotOp fun _ => rfl,
    fun _ => writesRegF_of_rotOp fun _ => rfl, fun _ => writesRegF_of_rotOp fun _ => rfl,
    storesF_of_rotOp fun _ => rfl, storesF_of_rotOp fun _ => rfl, storesF_of_rotOp fun _ => rfl,
    storesF_of_rotOp fun _ => rfl, storesF_of_rotOp fun _ => rfl, storesF_of_rotOp fun _ => rfl,
    storesF_of_rotOp fun _ => rfl, storesF_of_rotOp fun _ => rfl⟩

/-- The rotate and shift rows of the indexed bit space (R312). -/
theorem storesAndCopies_rotateXd (op : RotOp) (z : Option Reg8) (x : Idx) (d : Byte) :
    StoresAndCopies (rotateXd x d op z) 23 (·.ea x d) z true (fun s v => (shifted op v (s.f.getLsbD 0)).1)
      (fun s v => parityFlags (shifted op v (s.f.getLsbD 0)).1 false false (shifted op v (s.f.getLsbD 0)).2) := by
  intro s
  have hframe : Frame (z.toList.map Part.reg ++ [.f]) [s.ea x d] s (s.xcRot op (s.ea x d) z) :=
    (Frame.xcRot s op _ z).mono (by simp [or_comm]) fun _ => id
  refine ⟨_, Runs.ofDone (exec_rotateXd x d z op s) (State.cycles_copyTo _ _ _) hframe, ?_⟩
  rw [State.xcRot_eq, ← and_assoc]
  exact ⟨holds_and_reg_of_store_copy rfl, State.f_copyTo _ _ _⟩

/-- Settles O39, operation by operation, without and with the copy. -/
theorem rotateIndexed : Obligations.RotateIndexed :=
  ⟨storesAndCopies_rotateXd .rlc none, fun x d q => storesAndCopies_rotateXd .rlc (some q) x d,
    storesAndCopies_rotateXd .rrc none, fun x d q => storesAndCopies_rotateXd .rrc (some q) x d,
    storesAndCopies_rotateXd .rl none, fun x d q => storesAndCopies_rotateXd .rl (some q) x d,
    storesAndCopies_rotateXd .rr none, fun x d q => storesAndCopies_rotateXd .rr (some q) x d,
    storesAndCopies_rotateXd .sla none, fun x d q => storesAndCopies_rotateXd .sla (some q) x d,
    storesAndCopies_rotateXd .sra none, fun x d q => storesAndCopies_rotateXd .sra (some q) x d,
    storesAndCopies_rotateXd .sll none, fun x d q => storesAndCopies_rotateXd .sll (some q) x d,
    storesAndCopies_rotateXd .srl none, fun x d q => storesAndCopies_rotateXd .srl (some q) x d⟩

/-! ## BIT -/

/-- An instruction that only writes F a BIT of some byte. -/
theorem writesF_of_bitTest {b : Index8} {v u : State → Byte}
    (h : ∀ s, exec i s = done cost (s.setF (bitTest b (v s) (u s) s.f))) :
    WritesF i cost (fun s => bitFlags b (v s) (u s) s.f) :=
  fun s => ⟨_, Runs.ofDone (h s) rfl (Frame.setF s _), bitTest_eq_bitFlags b (v s) (u s) s.f⟩

/-- Settles O40: BIT in closed form; BIT b,(HL) counts its draw as well. -/
theorem bitTest_spec : Obligations.BitTest := by
  refine ⟨fun b q => writesF_of_bitTest fun _ => rfl, fun b s => ?_, fun x d b => writesF_of_bitTest fun _ => rfl,
    fun x d b z => writesF_of_bitTest fun _ => rfl⟩
  exact ⟨_, Runs.ofDone rfl rfl ((Frame.setF s _).trans (Frame.drawn _)), rfl, bitTest_eq_bitFlags b _ _ s.f⟩

/-! ## SET and RES -/

theorem getLsbD_bitMask (b : Index8) {k : Nat} (hk : k < 8) : ((1 : Byte) <<< b.val).getLsbD k = (k == b.val) := by
  rw [BitVec.getLsbD_shiftLeft, BitVec.ofNat_eq_ofNat, BitVec.getLsbD_one, Bool.eq_iff_iff]
  simp only [hk, Bool.and_eq_true, decide_true, Bool.not_eq_true', decide_eq_false_iff_not, decide_eq_true_eq, beq_iff_eq,
    true_and]
  omega

/-- SET makes bit b 1 and keeps every other bit (R169). -/
theorem getLsbD_setBit (b : Index8) (v : Byte) {k : Nat} (hk : k < 8) :
    (setBit b v).getLsbD k = (v.getLsbD k || k == b.val) := by
  rw [setBit, BitVec.getLsbD_or, getLsbD_bitMask b hk]

/-- RES makes bit b 0 and keeps every other bit (R169). -/
theorem getLsbD_resBit (b : Index8) (v : Byte) {k : Nat} (hk : k < 8) :
    (resBit b v).getLsbD k = (v.getLsbD k && k != b.val) := by
  rw [resBit, BitVec.getLsbD_and, BitVec.getLsbD_not, getLsbD_bitMask b hk, decide_eq_true hk]
  rfl

/-- An instruction of the indexed bit space that stores a byte, copies it, and leaves F alone (R312). -/
theorem storesAndCopies_of_store {g : Byte → Byte} (h : ∀ s, exec i s = done cost
      ((s.writeByte (address s) (g (s.readByte (address s)))).copyTo z (g (s.readByte (address s))))) :
    StoresAndCopies i cost address z false (fun _ v => g v) (fun s _ => s.f) := by
  intro s
  have hframe := (Frame.writeByte s (address s) (g (s.readByte (address s)))).trans
    (Frame.copyTo _ z (g (s.readByte (address s))))
  refine ⟨_, Runs.ofDone (h s) (State.cycles_copyTo _ _ _) (hframe.mono (by simp) (by simp)), ?_⟩
  rw [← and_assoc]
  exact ⟨holds_and_reg_of_store_copy rfl, State.f_copyTo _ _ _⟩

/-- Settles O41 with the model's `setBit` and `resBit`, whose bits are known. -/
theorem setAndResetBits : Obligations.SetAndResetBits := by
  refine ⟨setBit, resBit, fun b v k hk => ⟨getLsbD_setBit b v hk, getLsbD_resBit b v hk⟩,
    fun b q s => ⟨?_, ?_⟩, fun b s => ⟨?_, ?_⟩, fun x d b => ⟨?_, ?_, fun q => ⟨?_, ?_⟩⟩⟩
  · exact ⟨_, Runs.ofDone rfl rfl (Frame.setOp s b (.reg q)), State.reg_setReg_same s q _⟩
  · exact ⟨_, Runs.ofDone rfl rfl (Frame.resOp s b (.reg q)), State.reg_setReg_same s q _⟩
  · exact ⟨_, Runs.ofDone rfl rfl (Frame.setOp s b (.mem s.hl)), State.readByte_writeByte_same s.hl _⟩
  · exact ⟨_, Runs.ofDone rfl rfl (Frame.resOp s b (.mem s.hl)), State.readByte_writeByte_same s.hl _⟩
  · exact storesAndCopies_of_store fun _ => rfl
  · exact storesAndCopies_of_store fun _ => rfl
  · exact storesAndCopies_of_store fun _ => rfl
  · exact storesAndCopies_of_store fun _ => rfl

end Sys2Proof.Machine

/-! SUPPORT. Loads, the stack and exchanges: an instruction that is one write to a register, a pair, an index register or memory
runs, changes only what it writes, and leaves the value there; then the statements (41_load_exchange.md R200-R226). -/

namespace Sys2Proof.Machine

variable {i : Instr} {s : State} {cost fetches : Nat} {bytes : List Byte} {x : Idx}

/-! ## Encodings -/

/-- Bytes that are an instruction's encoding decode to it, if it looks at no byte after them. -/
theorem Encodes.ofEncode (hb : encode i = bytes) (hf : opcodeFetches i = fetches) (hw : i.wellFormed = true)
    (hl : lookahead i = []) : Encodes bytes fetches i := by
  subst hb hf
  exact encodes_encode i hw hl

/-- DD or FD and the opcode it applies to are the two opcode fetches (R103). -/
theorem Encodes.ofPrefixed (hb : encode i = x.prefixByte :: bytes) (hw : i.wellFormed = true) (hl : lookahead i = []) :
    Encodes (x.prefixByte :: bytes) 2 i := by
  refine .ofEncode hb ?_ hw hl
  rw [opcodeFetches, hl, hb]
  cases x <;> rfl

/-- A word operand is written low byte first (R75). -/
theorem encode_word {f : Word → Instr} {pre : List Byte} (h : ∀ w, encode (f w) = pre ++ [loByte w, hiByte w])
    (lo hi : Byte) : encode (f (mkWord hi lo)) = pre ++ [lo, hi] := by
  rw [h, loByte_mkWord, hiByte_mkWord]

/-- The fallback of R113, for a byte outside R114's list. -/
theorem fallsBack_of_usesHL_eq_false {op : Byte} (hu : usesHL op = false) (hne : op ≠ 0x76) : FallsBack op := by
  obtain ⟨-, -, hfall, -⟩ := fallbackBytes
  exact hfall op hu hne

/-! ## Sanity words -/

/-- Settles O3: each word is an instruction's encoding, or DD before a byte that does not use HL. -/
theorem sanityWords : Obligations.SanityWords :=
  ⟨encodes_encode (.ldRN .a 0x42) rfl rfl [], encodes_encode (.ldRpNn .hl 0x1234) rfl rfl [],
    encodes_encode (.bitR .i7 .a) rfl rfl [], encodes_encode .rld rfl rfl [], encodes_encode .ldir rfl rfl [],
    encodes_encode (.outCR .e) rfl rfl [], encodes_encode (.ldRXd .h .ix 0x02) rfl rfl [],
    encodes_encode (.ldXdN .iy 0x05 0xFF) rfl rfl [], encodes_encode (.rrXdR .ix 0x03 .b) rfl rfl [],
    fallsBack_of_usesHL_eq_false (op := 0xEB) rfl (by decide) .ix []⟩

/-! ## One write, one effect -/

@[simp] theorem State.cycles_setIdx (s : State) (x : Idx) (w : Word) : (s.setIdx x w).cycles = s.cycles := by
  cases x <;> rfl

@[simp] theorem State.cycles_setPair (s : State) (rp : RegPair) (w : Word) : (s.setPair rp w).cycles = s.cycles := by
  cases rp <;> rfl

@[simp] theorem State.cycles_setStackPair (s : State) (qq : StackPair) (w : Word) :
    (s.setStackPair qq w).cycles = s.cycles := by
  cases qq <;> rfl

@[simp] theorem State.idx_tick (s : State) (x : Idx) (n : Nat) : (s.tick n).idx x = s.idx x := by cases x <;> rfl

@[simp] theorem State.pair_tick (s : State) (rp : RegPair) (n : Nat) : (s.tick n).pair rp = s.pair rp := by
  cases rp <;> rfl

@[simp] theorem State.stackPair_tick (s : State) (qq : StackPair) (n : Nat) :
    (s.tick n).stackPair qq = s.stackPair qq := by
  cases qq <;> rfl

theorem runs_setReg {r : Reg8} {v : Byte} (h : exec i s = done cost (s.setReg r v)) :
    ∃ t, Runs i s t cost [.reg r] [] ∧ t.reg r = v :=
  ⟨_, Runs.ofDone h rfl (Frame.setReg s r v), State.reg_setReg_same s r v⟩

theorem runs_setIdx {w : Word} (h : exec i s = done cost (s.setIdx x w)) :
    ∃ t, Runs i s t cost [.idx x] [] ∧ t.idx x = w :=
  ⟨_, Runs.ofDone h (State.cycles_setIdx s x w) (Frame.setIdx s x w), by rw [State.idx_tick, State.idx_setIdx]⟩

/-- A write of both halves of X, which reads back half by half (R31, R34). -/
theorem runs_setIdx_halves {hi lo : Byte} (h : exec i s = done cost (s.setIdx x (mkWord hi lo))) :
    ∃ t, Runs i s t cost [.idx x] [] ∧ t.xh x = hi ∧ t.xl x = lo := by
  obtain ⟨t, ht, hx⟩ := runs_setIdx h
  exact ⟨t, ht, by rw [State.xh, hx, hiByte_mkWord], by rw [State.xl, hx, loByte_mkWord]⟩

theorem runs_setPair {rp : RegPair} {w : Word} (h : exec i s = done cost (s.setPair rp w)) :
    ∃ t, Runs i s t cost (pairParts rp) [] ∧ t.pair rp = w :=
  ⟨_, Runs.ofDone h (State.cycles_setPair s rp w) (Frame.setPair s rp w), by rw [State.pair_tick, State.pair_setPair]⟩

theorem runs_writeByte {a : Word} {v : Byte} (h : exec i s = done cost (s.writeByte a v)) :
    ∃ t, Runs i s t cost [] [a] ∧ Holds s t a v :=
  ⟨_, Runs.ofDone h rfl (Frame.writeByte s a v), State.readByte_writeByte_same a v⟩

/-- A store of a word: its low byte at the address, its high byte at the next (R74, R77). -/
theorem runs_writeWord {a v : Word} (h : exec i s = done cost (s.writeWord a v)) :
    ∃ t, Runs i s t cost [] [a, a + 1] ∧ Holds s t a (loByte v) ∧ Holds s t (a + 1) (hiByte v) :=
  ⟨_, Runs.ofDone h rfl (Frame.writeWord s a v), State.readByte_writeWord_low a v, State.readByte_writeWord_high a v⟩

/-! ## LD r,r' and LD r,n -/

theorem opcodeFetches_ldRR (r q : Reg8) : opcodeFetches (.ldRR r q) = 1 := by cases r <;> cases q <;> rfl

theorem opcodeFetches_ldRN (r : Reg8) (n : Byte) : opcodeFetches (.ldRN r n) = 1 := by cases r <;> rfl

/-- LD r,r' between registers other than H and L does not use HL (R114). -/
theorem usesHL_ldRR {r q : Reg8} (hr : r.isHOrL = false) (hq : q.isHOrL = false) :
    usesHL (0b01#2 ++ r.code ++ q.code) = false ∧ 0b01#2 ++ r.code ++ q.code ≠ (0x76 : Byte) := by
  revert hr hq
  cases r <;> cases q <;> decide

/-- LD r,n of a register other than H and L does not use HL (R114). -/
theorem usesHL_ldRN {r : Reg8} (hr : r.isHOrL = false) :
    usesHL (0b00#2 ++ r.code ++ 0b110#3) = false ∧ 0b00#2 ++ r.code ++ 0b110#3 ≠ (0x76 : Byte) := by
  revert hr
  cases r <;> decide

/-- Only H and L are substituted after DD or FD (R112, R116). -/
theorem Operand.substituted_eq_reg (x : Idx) {r : Reg8} (hr : r.isHOrL = false) : Operand.substituted x r = .reg r := by
  cases r with
  | h | l => cases hr
  | _ => rfl

/-- LD r,XH and LD r,XL, the target not substituted (R200). -/
theorem runs_ldRXH_ldRXL (s : State) (x : Idx) {r : Reg8} (hr : r.isHOrL = false) :
    (∃ t, Runs (.ldRXH r x) s t 8 [.reg r] [] ∧ t.reg r = s.xh x)
      ∧ ∃ t, Runs (.ldRXL r x) s t 8 [.reg r] [] ∧ t.reg r = s.xl x := by
  have hwrite (v : Byte) : s.writeOp (.substituted x r) v = s.setReg r v := by rw [Operand.substituted_eq_reg x hr]; rfl
  exact ⟨runs_setReg (congrArg (done 8) (hwrite _)), runs_setReg (congrArg (done 8) (hwrite _))⟩

/-- LD XH,r and LD XL,r, the source not substituted (R200). -/
theorem runs_ldXHR_ldXLR (s : State) (x : Idx) {r : Reg8} (hr : r.isHOrL = false) :
    (∃ t, Runs (.ldXHR x r) s t 8 [.idx x] [] ∧ t.xh x = s.reg r ∧ t.xl x = s.xl x)
      ∧ ∃ t, Runs (.ldXLR x r) s t 8 [.idx x] [] ∧ t.xl x = s.reg r ∧ t.xh x = s.xh x := by
  have hread : s.readOp (.substituted x r) = s.reg r := by rw [Operand.substituted_eq_reg x hr]; rfl
  obtain ⟨t, ht, hxh, hxl⟩ := runs_setIdx_halves (i := .ldXHR x r) (s := s) rfl
  obtain ⟨u, hu, hyh, hyl⟩ := runs_setIdx_halves (i := .ldXLR x r) (s := s) rfl
  exact ⟨⟨t, ht, hxh.trans hread, hxl⟩, u, hu, hyl.trans hread, hyh⟩

/-- Settles O23, form by form: each is one write to a register or to a half of X. -/
theorem registerLoads : Obligations.RegisterLoads := by
  refine ⟨fun r q => ⟨.ofEncode rfl (opcodeFetches_ldRR r q) rfl rfl, fun hr hq => ?_⟩, encodes_encode .halt rfl rfl,
    fun r x => ⟨.ofPrefixed rfl rfl rfl, .ofPrefixed rfl rfl rfl, fun hr => ⟨?_, ?_⟩⟩,
    fun r n => ⟨.ofEncode rfl (opcodeFetches_ldRN r n) rfl rfl, fun hr => ?_⟩,
    fun x n => ⟨.ofPrefixed rfl rfl rfl, .ofPrefixed rfl rfl rfl⟩,
    fun s => ⟨fun r q => runs_setReg rfl, fun r n => runs_setReg rfl, fun x => ⟨fun r hr => ?_, ?_, ?_, ?_, ?_, fun n => ?_⟩⟩⟩
  · obtain ⟨hu, hne⟩ := usesHL_ldRR hr hq
    exact fallsBack_of_usesHL_eq_false hu hne
  · exact .ofPrefixed rfl (congrArg (!·) hr) rfl
  · exact .ofPrefixed rfl (congrArg (!·) hr) rfl
  · obtain ⟨hu, hne⟩ := usesHL_ldRN hr
    exact fallsBack_of_usesHL_eq_false hu hne
  · obtain ⟨hxh, hxl⟩ := runs_ldRXH_ldRXL s x hr
    exact ⟨hxh, hxl, runs_ldXHR_ldXLR s x hr⟩
  · rw [s.idx_eq_halves x]
    exact runs_setIdx rfl
  · exact runs_setIdx_halves rfl
  · exact runs_setIdx_halves rfl
  · rw [s.idx_eq_halves x]
    exact runs_setIdx rfl
  · obtain ⟨t, ht, hxh, hxl⟩ := runs_setIdx_halves (i := .ldXLN x n) (s := s) rfl
    exact ⟨runs_setIdx_halves rfl, t, ht, hxl, hxh⟩

/-! ## Bytes from and to memory -/

/-- The displacement as an integer (R115). -/
theorem State.ea_eq (s : State) (x : Idx) (d : Byte) : s.ea x d = s.idx x + BitVec.ofInt 16 d.toInt := rfl

theorem opcodeFetches_ldRMHl (r : Reg8) : opcodeFetches (.ldRMHl r) = 1 := by cases r <;> rfl

theorem opcodeFetches_ldMHlR (q : Reg8) : opcodeFetches (.ldMHlR q) = 1 := by cases q <;> rfl

/-- Settles O24: each form is one write to a register. -/
theorem byteLoads : Obligations.ByteLoads :=
  ⟨fun r => ⟨.ofEncode rfl (opcodeFetches_ldRMHl r) rfl rfl, fun _ _ => .ofPrefixed rfl rfl rfl⟩,
    encodes_encode .ldAMBc rfl rfl, fallsBack_of_usesHL_eq_false rfl (by decide),
    encodes_encode .ldAMDe rfl rfl, fallsBack_of_usesHL_eq_false rfl (by decide),
    fun lo hi => .ofEncode (encode_word (pre := [0x3A]) (fun _ => rfl) lo hi) rfl rfl rfl,
    fun _ => ⟨fun _ => runs_setReg rfl, fun _ _ _ => runs_setReg rfl, runs_setReg (r := .a) rfl, runs_setReg (r := .a) rfl,
      fun _ => runs_setReg (r := .a) rfl⟩⟩

/-- Settles O25: each form is one write to memory. -/
theorem byteStores : Obligations.ByteStores :=
  ⟨fun q => ⟨.ofEncode rfl (opcodeFetches_ldMHlR q) rfl rfl, fun _ _ => .ofPrefixed rfl rfl rfl⟩,
    fun n => ⟨encodes_encode (.ldMHlN n) rfl rfl, fun _ _ => .ofPrefixed rfl rfl rfl⟩,
    encodes_encode .ldMBcA rfl rfl, encodes_encode .ldMDeA rfl rfl,
    fun lo hi => .ofEncode (encode_word (pre := [0x32]) (fun _ => rfl) lo hi) rfl rfl rfl,
    fun s => ⟨fun _ => runs_writeByte rfl, fun _ _ _ => runs_writeByte rfl, fun _ => runs_writeByte rfl,
      fun _ _ _ => runs_writeByte rfl, runs_writeByte rfl, runs_writeByte rfl, fun _ => runs_writeByte rfl, s.ea_eq⟩⟩

/-! ## I and R -/

/-- The flags of LD A,I and LD A,R in closed form (R211, R212). -/
theorem State.ldAFlags_eq_flagByte (s : State) (v : Byte) : s.ldAFlags v =
    flagByte (v.getLsbD 7) (v == 0) (v.getLsbD 5) false (v.getLsbD 3) s.iff2 false (s.f.getLsbD 0) := by
  rw [State.ldAFlags, and_fC_eq_flagByte, sz53_eq_flagByte, flagIf_fPV]
  simp only [flagByte_or, Bool.false_or, Bool.or_false]

/-- An instruction that loads A from a special register. -/
theorem writesAF_of_ldAFlags {v : State → Byte} (h : ∀ s, exec i s = done cost (s.setAF (v s, s.ldAFlags (v s)))) :
    WritesAF i cost v (fun _ v => v) (fun s v =>
      flagByte (v.getLsbD 7) (v == 0) (v.getLsbD 5) false (v.getLsbD 3) s.iff2 false (s.f.getLsbD 0)) :=
  fun s => ⟨_, Runs.ofDone (h s) rfl (Frame.setAF s _), rfl, s.ldAFlags_eq_flagByte (v s)⟩

/-- A step at ED and a byte after it that has no operand bytes runs that instruction, after two fetches (R100). -/
theorem step_of_encodes_ed {op : Byte} (ht : s.throttle ≠ 0) (hh : s.halted = false) (h0 : s.readByte s.pc = 0xED)
    (h1 : s.readByte (s.pc + 1) = op) (he : Encodes [0xED, op] 2 i) : step s = exec i (s.useThrottle.fetched 2 2) := by
  have hd : decode s.window = .ok ⟨i, 2, 2⟩ := by
    rw [State.window, h0, h1]
    exact he _
  rw [step, State.begin_running ht hh hd]

/-- Two fetches leave R7 and add 2 to the counter, whatever the throttle (R38). -/
theorem State.fetched_useThrottle_two (s : State) : (s.useThrottle.fetched 2 2).r7 = s.r7
    ∧ (s.useThrottle.fetched 2 2).rlo = s.rlo + 2 := by
  rw [State.useThrottle_eq]
  exact ⟨rfl, rfl⟩

/-- Settles O26; in a step, the instruction runs in the state after its two fetches. -/
theorem specialRegisterLoads : Obligations.SpecialRegisterLoads := by
  have hAR : Encodes [0xED, 0x5F] 2 .ldAR := encodes_encode .ldAR rfl rfl
  have hRA : Encodes [0xED, 0x4F] 2 .ldRA := encodes_encode .ldRA rfl rfl
  refine ⟨encodes_encode .ldAI rfl rfl, hAR, encodes_encode .ldIA rfl rfl, hRA, writesAF_of_ldAFlags fun _ => rfl,
    writesAF_of_ldAFlags fun _ => rfl, fun s => ⟨?_, ?_, fun ht hh h0 h1 => ?_, fun ht hh h0 h1 => ?_⟩⟩
  · exact ⟨_, Runs.ofDone rfl rfl (Frame.withI s s.a), rfl⟩
  · exact ⟨_, Runs.ofDone rfl rfl (Frame.setRefresh s s.a), rfl, s.toNat_rlo_setRefresh s.a⟩
  · obtain ⟨hr7, hrlo⟩ := s.fetched_useThrottle_two
    refine ⟨_, step_of_encodes_ed ht hh h0 h1 hAR, hr7, hrlo, ?_⟩
    have hA := (s.useThrottle.fetched 2 2).toNat_refresh
    rw [hr7, hrlo, BitVec.toNat_add] at hA
    exact hA
  · refine ⟨_, step_of_encodes_ed ht hh h0 h1 hRA, ?_⟩
    have hR := State.refresh_setRefresh (s.useThrottle.fetched 2 2) (s.useThrottle.fetched 2 2).a
    rw [State.useThrottle_eq] at hR ⊢
    exact hR

/-! ## Words -/

theorem opcodeFetches_ldRpNn (rp : RegPair) (nn : Word) : opcodeFetches (.ldRpNn rp nn) = 1 := by cases rp <;> rfl

/-- Settles O27: each load is one write to a pair, to X or to SP, and each store writes a word. -/
theorem wordLoadsAndStores : Obligations.WordLoadsAndStores := by
  refine ⟨fun rp lo hi => ⟨?_, ?_, ?_, fun x => ⟨?_, ?_⟩⟩, fallsBack_of_usesHL_eq_false rfl (by decide),
    fallsBack_of_usesHL_eq_false rfl (by decide), fallsBack_of_usesHL_eq_false rfl (by decide),
    fallsBack_of_usesHL_eq_false rfl (by decide), encodes_encode .ldSpHl rfl rfl, fun x => .ofPrefixed rfl rfl rfl,
    fun s nn => ⟨fun rp => runs_setPair rfl, fun x => runs_setIdx rfl, ?_, fun x => ?_, fun rp => runs_setPair rfl, ?_,
      fun x => ?_⟩,
    fun lo hi => ⟨?_, fun x => ?_, fun rp => ?_⟩,
    fun s nn => ⟨?_, fun x => runs_writeWord rfl, fun rp => runs_writeWord rfl⟩⟩
  · exact .ofEncode (encode_word (pre := [_]) (fun _ => rfl) lo hi) (opcodeFetches_ldRpNn rp _) rfl rfl
  · exact .ofEncode (encode_word (pre := [_, _]) (fun _ => rfl) lo hi) rfl rfl rfl
  · exact .ofEncode (encode_word (pre := [_]) (fun _ => rfl) lo hi) rfl rfl rfl
  · exact .ofPrefixed (encode_word (pre := [_, _]) (fun _ => rfl) lo hi) rfl rfl
  · exact .ofPrefixed (encode_word (pre := [_, _]) (fun _ => rfl) lo hi) rfl rfl
  · exact ⟨_, Runs.ofDone rfl rfl (Frame.setHl s _), loByte_mkWord _ _, hiByte_mkWord _ _⟩
  · obtain ⟨t, ht, hxh, hxl⟩ := runs_setIdx_halves (i := .ldXMNn x nn) (s := s) rfl
    exact ⟨t, ht, hxl, hxh⟩
  · exact ⟨_, Runs.ofDone rfl rfl (Frame.withSp s s.hl), rfl⟩
  · exact ⟨_, Runs.ofDone rfl rfl (Frame.withSp s (s.idx x)), rfl⟩
  · exact .ofEncode (encode_word (pre := [_]) (fun _ => rfl) lo hi) rfl rfl rfl
  · exact .ofPrefixed (encode_word (pre := [_, _]) (fun _ => rfl) lo hi) rfl rfl
  · exact .ofEncode (encode_word (pre := [_, _]) (fun _ => rfl) lo hi) rfl rfl rfl
  · obtain ⟨t, ht, hlo, hhi⟩ := runs_writeWord (i := .ldMNnHl nn) (s := s) rfl
    rw [State.hl, loByte_mkWord] at hlo
    rw [State.hl, hiByte_mkWord] at hhi
    exact ⟨t, ht, hlo, hhi⟩

/-! ## The stack -/

theorem opcodeFetches_pushQq (qq : StackPair) : opcodeFetches (.pushQq qq) = 1 := by cases qq <;> rfl

theorem opcodeFetches_popQq (qq : StackPair) : opcodeFetches (.popQq qq) = 1 := by cases qq <;> rfl

/-- An instruction that pushes a word (R19, R221). -/
theorem runs_push {v : Word} (h : exec i s = done cost (s.push v)) :
    ∃ t, Runs i s t cost [.sp] [s.sp - 2, s.sp - 1] ∧ t.sp = s.sp - 2
      ∧ Holds s t (s.sp - 2) (loByte v) ∧ Holds s t (s.sp - 1) (hiByte v) :=
  ⟨_, Runs.ofDone h rfl (Frame.push s v), rfl, State.readByte_push_low v, State.readByte_push_high v⟩

@[simp] theorem State.sp_setStackPair (s : State) (qq : StackPair) (w : Word) : (s.setStackPair qq w).sp = s.sp := by
  cases qq <;> rfl

@[simp] theorem State.sp_setIdx (s : State) (x : Idx) (w : Word) : (s.setIdx x w).sp = s.sp := by cases x <;> rfl

/-- POP qq reads the word at SP (R19, R222). -/
theorem runs_popQq (s : State) (qq : StackPair) :
    ∃ t, Runs (.popQq qq) s t 10 (.sp :: stackPairParts qq) [] ∧ t.sp = s.sp + 2 ∧ t.stackPair qq = s.top :=
  ⟨_, Runs.ofDone rfl (State.cycles_setStackPair s.dropTop qq s.top) ((Frame.dropTop s).trans (Frame.setStackPair _ qq s.top)),
    State.sp_setStackPair s.dropTop qq s.top, by rw [State.stackPair_tick, State.stackPair_setStackPair]⟩

/-- POP X reads the word at SP (R19, R222). -/
theorem runs_popX (s : State) (x : Idx) :
    ∃ t, Runs (.popX x) s t 14 [.sp, .idx x] [] ∧ t.sp = s.sp + 2 ∧ t.idx x = s.top :=
  ⟨_, Runs.ofDone rfl (State.cycles_setIdx s.dropTop x s.top) ((Frame.dropTop s).trans (Frame.setIdx _ x s.top)),
    State.sp_setIdx s.dropTop x s.top, by rw [State.idx_tick, State.idx_setIdx]⟩

/-- What PUSH stores, POP of any pair gives back, and SP with it (R75). -/
theorem popQq_pushQq {t u : State} {qq qq' : StackPair} (hs : s.mem.wf = true) (ht : exec (.pushQq qq) s = .next t)
    (hu : exec (.popQq qq') t = .next u) : u.stackPair qq' = s.stackPair qq ∧ u.sp = s.sp := by
  obtain ⟨u', ⟨hu', -, -⟩, hsp, hqq⟩ := runs_popQq t qq'
  cases hu'.symm.trans hu
  cases ht
  exact ⟨hqq.trans (State.top_push (s.stackPair qq) hs), hsp.trans (s.sp_dropTop_push (s.stackPair qq))⟩

/-- Settles O28: PUSH and POP are the operations of the stack. -/
theorem pushAndPop : Obligations.PushAndPop := by
  refine ⟨fun qq => ⟨.ofEncode rfl (opcodeFetches_pushQq qq) rfl rfl, .ofEncode rfl (opcodeFetches_popQq qq) rfl rfl⟩,
    fun x => ⟨.ofPrefixed rfl rfl rfl, .ofPrefixed rfl rfl rfl⟩,
    fun s => ⟨fun qq => runs_push rfl, fun x => runs_push rfl, runs_popQq s, ?_, fun x => ?_⟩,
    fun _ _ _ _ _ hs ht hu => popQq_pushQq hs ht hu⟩
  · exact ⟨_, rfl, loByte_mkWord _ _, hiByte_mkWord _ _⟩
  · obtain ⟨t, ht, hsp, hx⟩ := runs_popX s x
    exact ⟨t, ht, hsp, (congrArg loByte hx).trans (loByte_mkWord _ _), (congrArg hiByte hx).trans (hiByte_mkWord _ _)⟩

/-! ## The exchanges -/

/-- Settles O29, exchange by exchange. -/
theorem exchanges : Obligations.Exchanges := by
  refine ⟨encodes_encode .exDeHl rfl rfl, fallsBack_of_usesHL_eq_false rfl (by decide), encodes_encode .exAfAf rfl rfl,
    encodes_encode .exx rfl rfl, fallsBack_of_usesHL_eq_false rfl (by decide), encodes_encode .exMSpHl rfl rfl,
    fun x => .ofPrefixed rfl rfl rfl, fun s => ⟨?_, ?_, ?_, ?_, fun x => ?_⟩⟩
  · exact ⟨_, Runs.ofDone rfl rfl ((Frame.setDe s s.hl).trans (Frame.setHl _ s.de)), hiByte_mkWord _ _, loByte_mkWord _ _,
      hiByte_mkWord _ _, loByte_mkWord _ _⟩
  · exact ⟨_, Runs.ofDone rfl rfl ((Frame.setAF s (s.shadow.a, s.shadow.f)).trans (Frame.withShadow _ _)), rfl, rfl, rfl⟩
  · refine ⟨_, Runs.ofDone rfl rfl ((Frame.withMainKeepAF s s.shadow).trans (Frame.withShadow _ _)), fun r hr => ?_, rfl, rfl⟩
    cases r with
    | a => exact absurd rfl hr
    | _ => exact ⟨rfl, rfl⟩
  · exact ⟨_, Runs.ofDone rfl rfl ((Frame.writeWord s s.sp s.hl).trans (Frame.setHl _ _)), loByte_mkWord _ _,
      hiByte_mkWord _ _, fun hs => (State.readByte_writeWord_low s.sp s.hl hs).trans (loByte_mkWord _ _),
      fun hs => (State.readByte_writeWord_high s.sp s.hl hs).trans (hiByte_mkWord _ _)⟩
  · have hf := (Frame.writeWord s s.sp (s.idx x)).trans (Frame.setIdx _ x (s.readWord s.sp))
    refine ⟨_, Runs.ofDone rfl (State.cycles_setIdx _ x _) hf, ?_, ?_, fun hs => ?_, fun hs => ?_⟩
    · rw [State.xl, State.idx_tick, State.idx_setIdx, State.readWord, loByte_mkWord]
    · rw [State.xh, State.idx_tick, State.idx_setIdx, State.readWord, hiByte_mkWord]
    · rw [State.readByte_tick, State.readByte_setIdx, State.readByte_writeWord_low _ _ hs, State.xl]
    · rw [State.readByte_tick, State.readByte_setIdx, State.readByte_writeWord_high _ _ hs, State.xh]

end Sys2Proof.Machine

/-! SUPPORT. 8-bit arithmetic and logic: each operation in closed form, and what an instruction that is that operation runs to
(42_arith_logic.md R250-R266, R272-R275); then the statements. -/

namespace Sys2Proof.Machine

variable {i : Instr} {s : State} {cost : Nat} {x : Idx}

/-! ## Encodings -/

/-- An opcode byte below 0xC0 is none of CB, ED, DD and FD, and is the only opcode fetch (R103, R111). -/
theorem Encodes.ofBelowPrefixes {op : Byte} (hb : encode i = [op]) (hop : op.toNat < 0xC0) (hw : i.wellFormed = true)
    (hl : lookahead i = []) : Encodes [op] 1 i := by
  have hne : ¬(op = 0xCB ∨ op = 0xED ∨ op = 0xDD ∨ op = 0xFD) := by
    rintro (rfl | rfl | rfl | rfl) <;> exact absurd hop (by decide)
  refine .ofEncode hb ?_ hw hl
  rw [opcodeFetches, hl, hb]
  exact if_neg hne

/-- An operation of the accumulator group and a register: the bytes 0x80 to 0xBF (R111). -/
theorem toNat_aluRegister_lt : ∀ y : BitVec 5, y.extractLsb' 3 2 = 0b10#2 → ∀ q : Reg8, (y ++ q.code).toNat < 0xC0 := by
  intro y hy q
  revert y
  cases q <;> decide

/-- An operation of the accumulator group on a register other than H and L does not use HL (R114). -/
theorem usesHL_aluRegister {q : Reg8} (hq : q.isHOrL = false) : ∀ y : BitVec 5, y.extractLsb' 3 2 = 0b10#2 →
    usesHL (y ++ q.code) = false ∧ y ++ q.code ≠ (0x76 : Byte) := by
  revert hq
  cases q <;> decide

/-- The register form of an operation of the accumulator group. -/
theorem encodes_aluRegister {f : Reg8 → Instr} {y : BitVec 5} (hy : y.extractLsb' 3 2 = 0b10#2)
    (hb : ∀ q, encode (f q) = [y ++ q.code]) (hw : ∀ q, (f q).wellFormed = true) (hl : ∀ q, lookahead (f q) = []) (q : Reg8) :
    Encodes [y ++ q.code] 1 (f q) ∧ (q.isHOrL = false → FallsBack (y ++ q.code)) := by
  refine ⟨.ofBelowPrefixes (hb q) (toNat_aluRegister_lt y hy q) (hw q) (hl q), fun hq => ?_⟩
  obtain ⟨hu, hne⟩ := usesHL_aluRegister hq y hy
  exact fallsBack_of_usesHL_eq_false hu hne

/-! ## Flags as flag bytes -/

theorem fH_eq_flagByte : fH = flagByte false false false true false false false false := by decide

theorem and_f5_f3_eq_flagByte : ∀ u : Byte,
    u &&& (f5 ||| f3) = flagByte false false (u.getLsbD 5) false (u.getLsbD 3) false false false := by decide

theorem and_fS_fZ_fPV_eq_flagByte : ∀ f : Byte, f &&& (fS ||| fZ ||| fPV)
    = flagByte (f.getLsbD 7) (f.getLsbD 6) false false false (f.getLsbD 2) false false := by decide

theorem and_fS_fZ_fPV_fC_eq_flagByte : ∀ f : Byte, f &&& (fS ||| fZ ||| fPV ||| fC)
    = flagByte (f.getLsbD 7) (f.getLsbD 6) false false false (f.getLsbD 2) false (f.getLsbD 0) := by decide

/-- A mask keeps the flags it has. -/
theorem flagByte_and (s z f5 h f3 pv n c s' z' f5' h' f3' pv' n' c' : Bool) :
    flagByte s z f5 h f3 pv n c &&& flagByte s' z' f5' h' f3' pv' n' c' =
      flagByte (s && s') (z && z') (f5 && f5') (h && h') (f3 && f3') (pv && pv') (n && n') (c && c') := by
  apply byte_eq_of_bits <;>
    simp only [BitVec.getLsbD_and, getLsbD_flagByte_0, getLsbD_flagByte_1, getLsbD_flagByte_2, getLsbD_flagByte_3,
      getLsbD_flagByte_4, getLsbD_flagByte_5, getLsbD_flagByte_6, getLsbD_flagByte_7]

/-- `SZ53P` in closed form (R153). -/
theorem sz53p_eq_parityFlags (v : Byte) : sz53p v = parityFlags v false false false := by
  rw [sz53p, sz53_eq_flagByte, par_eq_flagByte]
  simp only [flagByte_or, Bool.false_or, Bool.or_false, parityFlags]

/-! ## The accumulator group in closed form -/

theorem State.addA_eq (s : State) (v : Byte) : s.addA v = s.setAF (sumOf s.a v false, addFlags s.a v false) := by
  rw [State.addA, add8_eq]

theorem State.adcA_eq (s : State) (v : Byte) :
    s.adcA v = s.setAF (sumOf s.a v (s.f.getLsbD 0), addFlags s.a v (s.f.getLsbD 0)) := by
  rw [State.adcA, s.carry_eq, add8_eq]

theorem State.subA_eq (s : State) (v : Byte) : s.subA v = s.setAF (differenceOf s.a v false, subFlags s.a v false) := by
  rw [State.subA, sub8_eq]

theorem State.sbcA_eq (s : State) (v : Byte) :
    s.sbcA v = s.setAF (differenceOf s.a v (s.f.getLsbD 0), subFlags s.a v (s.f.getLsbD 0)) := by
  rw [State.sbcA, s.carry_eq, sub8_eq]

theorem State.andA_eq (s : State) (v : Byte) :
    s.andA v = s.setAF (s.a &&& v, parityFlags (s.a &&& v) true false false) := by
  rw [State.andA, and8, sz53p_eq_parityFlags, parityFlags, fH_eq_flagByte]
  simp only [flagByte_or, Bool.false_or, Bool.or_false, parityFlags]

theorem State.xorA_eq (s : State) (v : Byte) :
    s.xorA v = s.setAF (s.a ^^^ v, parityFlags (s.a ^^^ v) false false false) := by
  rw [State.xorA, xor8, sz53p_eq_parityFlags]

theorem State.orA_eq (s : State) (v : Byte) :
    s.orA v = s.setAF (s.a ||| v, parityFlags (s.a ||| v) false false false) := by
  rw [State.orA, or8, sz53p_eq_parityFlags]

/-- `Cp8` in closed form: F5 and F3 of the difference give way to those of the operand (R160). -/
theorem cp8_eq (a b : Byte) : cp8 a b = subFlagsFrom b a b false := by
  have hkeep : (0xD7 : Byte) = flagByte true true false true false true true true := by decide
  have htake : (0x28 : Byte) = f5 ||| f3 := by decide
  rw [cp8, sub8_eq, hkeep, htake, and_f5_f3_eq_flagByte, subFlags, subFlagsFrom, subFlagsFrom]
  simp only [flagByte_and, flagByte_or, Bool.and_true, Bool.and_false, Bool.false_or, Bool.or_false]

/-! ## Instructions that write A and F, or F only -/

/-- An instruction that is a write of A and F. -/
theorem writesAF_of_setAF {v : State → Byte} {result flags : State → Byte → Byte}
    (h : ∀ s, exec i s = done cost (s.setAF (result s (v s), flags s (v s)))) : WritesAF i cost v result flags :=
  fun s => ⟨_, Runs.ofDone (h s) rfl (Frame.setAF s _), rfl, rfl⟩

/-- An instruction that is an operation of the accumulator group on an operand. -/
theorem writesAF_of_operation {op : State → Byte → State} {v : State → Byte} {result flags : State → Byte → Byte}
    (hop : ∀ s b, op s b = s.setAF (result s b, flags s b)) (h : ∀ s, exec i s = done cost (op s (v s))) :
    WritesAF i cost v result flags :=
  writesAF_of_setAF fun s => (h s).trans (congrArg (done cost) (hop s (v s)))

/-- An instruction that is a write of F. -/
theorem writesF_of_setF {flags : State → Byte} (h : ∀ s, exec i s = done cost (s.setF (flags s))) : WritesF i cost flags :=
  fun s => ⟨_, Runs.ofDone (h s) rfl (Frame.setF s _), rfl⟩

/-- An instruction that is CP of an operand (R257). -/
theorem writesF_of_cpA {v : State → Byte} (h : ∀ s, exec i s = done cost (s.cpA (v s))) :
    WritesF i cost (fun s => subFlagsFrom (v s) s.a (v s) false) :=
  writesF_of_setF fun s => by rw [h, State.cpA, cp8_eq]

/-- Settles O30: the encodings of ADD and of ADC, then their operand forms. -/
theorem addition : Obligations.Addition :=
  ⟨encodes_aluRegister rfl (fun _ => rfl) (fun _ => rfl) fun _ => rfl, encodes_encode .addAMHl rfl rfl,
    fun n => encodes_encode (.addAN n) rfl rfl, fallsBack_of_usesHL_eq_false rfl (by decide),
    fun _ => ⟨.ofPrefixed rfl rfl rfl, .ofPrefixed rfl rfl rfl, fun _ => .ofPrefixed rfl rfl rfl⟩,
    encodes_aluRegister rfl (fun _ => rfl) (fun _ => rfl) fun _ => rfl, encodes_encode .adcAMHl rfl rfl,
    fun n => encodes_encode (.adcAN n) rfl rfl, fallsBack_of_usesHL_eq_false rfl (by decide),
    fun _ => ⟨.ofPrefixed rfl rfl rfl, .ofPrefixed rfl rfl rfl, fun _ => .ofPrefixed rfl rfl rfl⟩,
    fun _ => writesAF_of_operation State.addA_eq fun _ => rfl, writesAF_of_operation State.addA_eq fun _ => rfl,
    fun _ => writesAF_of_operation State.addA_eq fun _ => rfl, fun _ _ => writesAF_of_operation State.addA_eq fun _ => rfl,
    fun _ => writesAF_of_operation State.addA_eq fun _ => rfl, fun _ => writesAF_of_operation State.addA_eq fun _ => rfl,
    fun _ => writesAF_of_operation State.adcA_eq fun _ => rfl, writesAF_of_operation State.adcA_eq fun _ => rfl,
    fun _ => writesAF_of_operation State.adcA_eq fun _ => rfl, fun _ _ => writesAF_of_operation State.adcA_eq fun _ => rfl,
    fun _ => writesAF_of_operation State.adcA_eq fun _ => rfl, fun _ => writesAF_of_operation State.adcA_eq fun _ => rfl⟩

/-- Settles O31: the encodings and operand forms of SUB and SBC, then those of CP. -/
theorem subtractAndCompare : Obligations.SubtractAndCompare :=
  ⟨encodes_aluRegister rfl (fun _ => rfl) (fun _ => rfl) fun _ => rfl, encodes_encode .subMHl rfl rfl,
    fun n => encodes_encode (.subN n) rfl rfl, fallsBack_of_usesHL_eq_false rfl (by decide),
    fun _ => ⟨.ofPrefixed rfl rfl rfl, .ofPrefixed rfl rfl rfl, fun _ => .ofPrefixed rfl rfl rfl⟩,
    encodes_aluRegister rfl (fun _ => rfl) (fun _ => rfl) fun _ => rfl, encodes_encode .sbcAMHl rfl rfl,
    fun n => encodes_encode (.sbcAN n) rfl rfl, fallsBack_of_usesHL_eq_false rfl (by decide),
    fun _ => ⟨.ofPrefixed rfl rfl rfl, .ofPrefixed rfl rfl rfl, fun _ => .ofPrefixed rfl rfl rfl⟩,
    fun _ => writesAF_of_operation State.subA_eq fun _ => rfl, writesAF_of_operation State.subA_eq fun _ => rfl,
    fun _ => writesAF_of_operation State.subA_eq fun _ => rfl, fun _ _ => writesAF_of_operation State.subA_eq fun _ => rfl,
    fun _ => writesAF_of_operation State.subA_eq fun _ => rfl, fun _ => writesAF_of_operation State.subA_eq fun _ => rfl,
    fun _ => writesAF_of_operation State.sbcA_eq fun _ => rfl, writesAF_of_operation State.sbcA_eq fun _ => rfl,
    fun _ => writesAF_of_operation State.sbcA_eq fun _ => rfl, fun _ _ => writesAF_of_operation State.sbcA_eq fun _ => rfl,
    fun _ => writesAF_of_operation State.sbcA_eq fun _ => rfl, fun _ => writesAF_of_operation State.sbcA_eq fun _ => rfl,
    encodes_aluRegister rfl (fun _ => rfl) (fun _ => rfl) fun _ => rfl, encodes_encode .cpMHl rfl rfl,
    fun n => encodes_encode (.cpN n) rfl rfl, fallsBack_of_usesHL_eq_false rfl (by decide),
    fun _ => ⟨.ofPrefixed rfl rfl rfl, .ofPrefixed rfl rfl rfl, fun _ => .ofPrefixed rfl rfl rfl⟩,
    fun _ => writesF_of_cpA fun _ => rfl, writesF_of_cpA fun _ => rfl,
    fun _ => writesF_of_cpA fun _ => rfl, fun _ _ => writesF_of_cpA fun _ => rfl,
    fun _ => writesF_of_cpA fun _ => rfl, fun _ => writesF_of_cpA fun _ => rfl⟩

/-- Settles O32: the encodings of AND, XOR and OR, then their operand forms. -/
theorem andXorOr : Obligations.AndXorOr :=
  ⟨encodes_aluRegister rfl (fun _ => rfl) (fun _ => rfl) fun _ => rfl, encodes_encode .andMHl rfl rfl,
    fun n => encodes_encode (.andN n) rfl rfl, fallsBack_of_usesHL_eq_false rfl (by decide),
    fun _ => ⟨.ofPrefixed rfl rfl rfl, .ofPrefixed rfl rfl rfl, fun _ => .ofPrefixed rfl rfl rfl⟩,
    encodes_aluRegister rfl (fun _ => rfl) (fun _ => rfl) fun _ => rfl, encodes_encode .xorMHl rfl rfl,
    fun n => encodes_encode (.xorN n) rfl rfl, fallsBack_of_usesHL_eq_false rfl (by decide),
    fun _ => ⟨.ofPrefixed rfl rfl rfl, .ofPrefixed rfl rfl rfl, fun _ => .ofPrefixed rfl rfl rfl⟩,
    encodes_aluRegister rfl (fun _ => rfl) (fun _ => rfl) fun _ => rfl, encodes_encode .orMHl rfl rfl,
    fun n => encodes_encode (.orN n) rfl rfl, fallsBack_of_usesHL_eq_false rfl (by decide),
    fun _ => ⟨.ofPrefixed rfl rfl rfl, .ofPrefixed rfl rfl rfl, fun _ => .ofPrefixed rfl rfl rfl⟩,
    fun _ => writesAF_of_operation State.andA_eq fun _ => rfl, writesAF_of_operation State.andA_eq fun _ => rfl,
    fun _ => writesAF_of_operation State.andA_eq fun _ => rfl, fun _ _ => writesAF_of_operation State.andA_eq fun _ => rfl,
    fun _ => writesAF_of_operation State.andA_eq fun _ => rfl, fun _ => writesAF_of_operation State.andA_eq fun _ => rfl,
    fun _ => writesAF_of_operation State.xorA_eq fun _ => rfl, writesAF_of_operation State.xorA_eq fun _ => rfl,
    fun _ => writesAF_of_operation State.xorA_eq fun _ => rfl, fun _ _ => writesAF_of_operation State.xorA_eq fun _ => rfl,
    fun _ => writesAF_of_operation State.xorA_eq fun _ => rfl, fun _ => writesAF_of_operation State.xorA_eq fun _ => rfl,
    fun _ => writesAF_of_operation State.orA_eq fun _ => rfl, writesAF_of_operation State.orA_eq fun _ => rfl,
    fun _ => writesAF_of_operation State.orA_eq fun _ => rfl, fun _ _ => writesAF_of_operation State.orA_eq fun _ => rfl,
    fun _ => writesAF_of_operation State.orA_eq fun _ => rfl, fun _ => writesAF_of_operation State.orA_eq fun _ => rfl⟩

/-! ## INC and DEC -/

/-- The flags of an increment (R161). -/
def incFlags (f v : Byte) : Byte :=
  flagByte ((v + 1).getLsbD 7) (v + 1 == 0) ((v + 1).getLsbD 5) (v.toNat % 16 == 15) ((v + 1).getLsbD 3) (v + 1 == 0x80)
    false (f.getLsbD 0)

/-- The flags of a decrement (R162). -/
def decFlags (f v : Byte) : Byte :=
  flagByte ((v - 1).getLsbD 7) (v - 1 == 0) ((v - 1).getLsbD 5) (v.toNat % 16 == 0) ((v - 1).getLsbD 3) (v - 1 == 0x7F)
    true (f.getLsbD 0)

/-- `Inc8` in closed form: the low nibble of the result is 0 where that of the operand was 15 (R161). -/
theorem inc8_eq (v f : Byte) : inc8 v f = (v + 1, incFlags f v) := by
  have hnibble : ∀ v : Byte, ((v + 1) &&& 0x0F == 0) = (v.toNat % 16 == 15) := by decide
  rw [inc8, hnibble, and_fC_eq_flagByte, flagIf_fPV, flagIf_fH, sz53_eq_flagByte]
  simp only [flagByte_or, Bool.false_or, Bool.or_false, incFlags]

/-- `Dec8` in closed form (R162). -/
theorem dec8_eq (v f : Byte) : dec8 v f = (v - 1, decFlags f v) := by
  have hnibble : ∀ v : Byte, (v &&& 0x0F == 0) = (v.toNat % 16 == 0) := by decide
  rw [dec8, hnibble, and_fC_eq_flagByte, fN_eq_flagByte, flagIf_fPV, flagIf_fH, sz53_eq_flagByte]
  simp only [flagByte_or, Bool.false_or, Bool.or_false, decFlags]

/-- INC of an operand in closed form (R258, R259). -/
theorem State.incOp_eq (s : State) (o : Operand) :
    s.incOp o = (s.setF (incFlags s.f (s.readOp o))).writeOp o (s.readOp o + 1) := by
  rw [State.incOp, inc8_eq]

/-- DEC of an operand in closed form (R260, R261). -/
theorem State.decOp_eq (s : State) (o : Operand) :
    s.decOp o = (s.setF (decFlags s.f (s.readOp o))).writeOp o (s.readOp o - 1) := by
  rw [State.decOp, dec8_eq]

/-- An instruction that writes F and a register. -/
theorem writesRegF_of_writeOp {r : Reg8} {result flags : State → Byte → Byte}
    (h : ∀ s, exec i s = done cost ((s.setF (flags s (s.reg r))).writeOp (.reg r) (result s (s.reg r)))) :
    WritesRegF i cost r result flags := by
  intro s
  have hframe := (Frame.setF s (flags s (s.reg r))).trans (Frame.setReg _ r (result s (s.reg r)))
  exact ⟨_, Runs.ofDone (h s) rfl (hframe.mono (by simp) fun _ => id), State.reg_setReg_same _ r _, State.f_setReg _ r _⟩

/-- An instruction that writes F and the byte at an address. -/
theorem storesF_of_writeOp {address : State → Word} {result flags : State → Byte → Byte}
    (h : ∀ s, exec i s = done cost ((s.setF (flags s (s.readByte (address s)))).writeOp (.mem (address s))
      (result s (s.readByte (address s))))) : StoresF i cost address result flags :=
  fun s => ⟨_, Runs.ofDone (h s) rfl ((Frame.setF s _).trans (Frame.writeByte _ _ _)),
    State.readByte_writeByte_same (s := s.setF _) (address s) _, rfl⟩

/-- An instruction that writes F and both halves of X. -/
theorem runs_setF_setIdx {f hi lo : Byte} (h : exec i s = done cost ((s.setF f).setIdx x (mkWord hi lo))) :
    ∃ t, Runs i s t cost [.idx x, .f] [] ∧ t.xh x = hi ∧ t.xl x = lo ∧ t.f = f := by
  have hframe := (Frame.setF s f).trans (Frame.setIdx _ x (mkWord hi lo))
  refine ⟨_, Runs.ofDone h (State.cycles_setIdx _ x _) (hframe.mono (by simp) fun _ => id), ?_, ?_, ?_⟩
  · rw [State.xh, State.idx_tick, State.idx_setIdx, hiByte_mkWord]
  · rw [State.xl, State.idx_tick, State.idx_setIdx, loByte_mkWord]
  · cases x <;> rfl

/-- Settles O33, form by form, each the closed form of INC or DEC of its operand. -/
theorem incrementAndDecrement : Obligations.IncrementAndDecrement := by
  refine ⟨fun r => ⟨.ofBelowPrefixes rfl (by cases r <;> decide) rfl rfl, .ofBelowPrefixes rfl (by cases r <;> decide) rfl rfl⟩,
    encodes_encode .incMHl rfl rfl, encodes_encode .decMHl rfl rfl,
    fun x => ⟨.ofPrefixed rfl rfl rfl, .ofPrefixed rfl rfl rfl, .ofPrefixed rfl rfl rfl, .ofPrefixed rfl rfl rfl,
      fun d => ⟨.ofPrefixed rfl rfl rfl, .ofPrefixed rfl rfl rfl⟩⟩,
    fun r => ⟨writesRegF_of_writeOp fun s => congrArg (done 4) (s.incOp_eq (.reg r)),
      writesRegF_of_writeOp fun s => congrArg (done 4) (s.decOp_eq (.reg r))⟩,
    storesF_of_writeOp fun s => congrArg (done 11) (s.incOp_eq (.mem s.hl)),
    storesF_of_writeOp fun s => congrArg (done 11) (s.decOp_eq (.mem s.hl)),
    fun x d => ⟨storesF_of_writeOp fun s => congrArg (done 23) (s.incOp_eq (.mem (s.ea x d))),
      storesF_of_writeOp fun s => congrArg (done 23) (s.decOp_eq (.mem (s.ea x d)))⟩, fun s x => ⟨?_, ?_, ?_, ?_⟩⟩
  · exact runs_setF_setIdx (congrArg (done 8) (s.incOp_eq (.xh x)))
  · obtain ⟨t, ht, hxh, hxl, hf⟩ := runs_setF_setIdx (i := .incXL x) (congrArg (done 8) (s.incOp_eq (.xl x)))
    exact ⟨t, ht, hxl, hxh, hf⟩
  · exact runs_setF_setIdx (congrArg (done 8) (s.decOp_eq (.xh x)))
  · obtain ⟨t, ht, hxh, hxl, hf⟩ := runs_setF_setIdx (i := .decXL x) (congrArg (done 8) (s.decOp_eq (.xl x)))
    exact ⟨t, ht, hxl, hxh, hf⟩

/-! ## DAA -/

theorem sumOf_false (a b : Byte) : sumOf a b false = a + b := by
  rw [sumOf_eq_add]
  exact BitVec.add_zero _

theorem differenceOf_false (a b : Byte) : differenceOf a b false = a - b := BitVec.sub_zero _

/-- The correction of DAA in closed form: the two digits' corrections add up (R170). -/
theorem daaCorrection_eq (a f : Byte) : daaCorrection a f =
    (if f.getLsbD 4 = true ∨ 9 < a.toNat % 16 then 0x06 else 0x00)
      + (if f.getLsbD 0 = true ∨ 0x99 < a.toNat then 0x60 else 0x00) := by
  apply BitVec.eq_of_toNat_eq
  rw [toNat_daaCorrection, hasFlag_fH, hasFlag_fC]
  split <;> split <;> rfl

/-- DAA in closed form: an addition or a subtraction of the correction, with PV and C its own (R170). -/
theorem daa_eq (a f : Byte) {k : Byte} (hk : k = daaCorrection a f) :
    (daa a f).1 = (if f.getLsbD 1 = true then a - k else a + k)
      ∧ (daa a f).2 = parityFlags (daa a f).1
        (if f.getLsbD 1 = true then halfBorrow a k false else halfCarry a k false) (f.getLsbD 1)
        (f.getLsbD 0 || decide (0x99 < a.toNat)) := by
  have hmask : ~~~(fC ||| fPV) = flagByte true true true true true false true false := by decide
  rw [daa, ← hk, hasFlag_fN, hasFlag_fC, hmask, flagIf_fC, par_eq_flagByte]
  cases f.getLsbD 1 with
  | false =>
    rw [if_neg Bool.false_ne_true, if_neg Bool.false_ne_true, if_neg Bool.false_ne_true, add8_eq, addFlags, sumOf_false]
    simp only [flagByte_and, flagByte_or, Bool.and_true, Bool.and_false, Bool.false_or, Bool.or_false, parityFlags, and_self]
  | true =>
    rw [if_pos rfl, if_pos rfl, if_pos rfl, sub8_eq, subFlags, subFlagsFrom, differenceOf_false]
    simp only [flagByte_and, flagByte_or, Bool.and_true, Bool.and_false, Bool.false_or, Bool.or_false, parityFlags, and_self]

/-- Settles O34, from the closed form of DAA. -/
theorem decimalAdjust : Obligations.DecimalAdjust := by
  refine ⟨encodes_encode .daa rfl rfl, fun s k hk => ?_⟩
  obtain ⟨ha, hf⟩ := daa_eq s.a s.f (hk.trans (daaCorrection_eq s.a s.f).symm)
  exact ⟨_, Runs.ofDone rfl rfl (Frame.setAF s (daa s.a s.f)), ha, hf⟩

/-! ## The accumulator and flag specials -/

/-- CPL in closed form (R263). -/
theorem cpl_flags_eq (f a : Byte) : (f &&& (fS ||| fZ ||| fPV ||| fC)) ||| (a &&& (f5 ||| f3)) ||| fH ||| fN
    = flagByte (f.getLsbD 7) (f.getLsbD 6) (a.getLsbD 5) true (a.getLsbD 3) (f.getLsbD 2) true (f.getLsbD 0) := by
  rw [and_fS_fZ_fPV_fC_eq_flagByte, and_f5_f3_eq_flagByte, fH_eq_flagByte, fN_eq_flagByte]
  simp only [flagByte_or, Bool.false_or, Bool.or_false]

/-- S, Z and PV of one byte, F5 and F3 of another, and other flags (R163, R167). -/
theorem keepSZP_eq_or (f u : Byte) (h n c : Bool) : keepSZP f u h n c
    = (f &&& (fS ||| fZ ||| fPV)) ||| (u &&& (f5 ||| f3)) ||| flagByte false false false h false false n c := by
  rw [and_fS_fZ_fPV_eq_flagByte, and_f5_f3_eq_flagByte]
  simp only [flagByte_or, Bool.false_or, Bool.or_false, keepSZP]

/-- `RotA` in closed form (R167). -/
theorem rotA_eq_shifted (op : RotOp) (a f : Byte) :
    let r := shifted op a (f.getLsbD 0)
    rotA op a f = (r.1, keepSZP f r.1 false false r.2) := by
  rw [rotA, hasFlag_fC, rotResult_eq_shifted, rotCarry_eq_shifted op a (f.getLsbD 0), flagIf_fC, ← keepSZP_eq_or]

/-- The flags of CCF: H takes the old C (R265). -/
theorem ccf_flags_eq (f a : Byte) (c : Bool) : (f &&& (fS ||| fZ ||| fPV)) ||| (if c then fH else fC) ||| (a &&& (f5 ||| f3))
    = keepSZP f a c false !c := by
  have hHC : (if c then fH else fC) = flagByte false false false c false false false !c := by cases c <;> rfl
  rw [hHC, and_fS_fZ_fPV_eq_flagByte, and_f5_f3_eq_flagByte]
  simp only [flagByte_or, Bool.false_or, Bool.or_false, keepSZP]

/-- The row of NEG and its aliases (R121, R264). -/
theorem encodes_neg {op : Byte} (h : op ∈ [(0x44 : Byte), 0x4C, 0x54, 0x5C, 0x64, 0x6C, 0x74, 0x7C]) :
    Encodes [0xED, op] 2 .neg := by
  intro rest
  simp only [List.mem_cons, List.not_mem_nil, or_false] at h
  obtain rfl | rfl | rfl | rfl | rfl | rfl | rfl | rfl := h <;> rfl

/-- Settles O35: each instruction is one write of A and F, or of F. -/
theorem accumulatorInstructions : Obligations.AccumulatorInstructions := by
  refine ⟨encodes_encode .cpl rfl rfl, encodes_encode .ccf rfl rfl, encodes_encode .scf rfl rfl,
    fun op => encodes_neg, writesAF_of_setAF fun s => ?_, writesAF_of_setAF fun s => ?_, writesF_of_setF fun s => ?_,
    writesF_of_setF fun s => ?_,
    encodes_encode .rlca rfl rfl, encodes_encode .rla rfl rfl, encodes_encode .rrca rfl rfl, encodes_encode .rra rfl rfl,
    writesAF_of_setAF fun s => ?_, writesAF_of_setAF fun s => ?_, writesAF_of_setAF fun s => ?_,
    writesAF_of_setAF fun s => ?_⟩
  · have hnot : s.a ^^^ 0xFF = ~~~s.a := BitVec.xor_allOnes
    rw [← cpl_flags_eq, ← hnot]
    rfl
  · have hneg : -s.a = differenceOf 0 s.a false := (BitVec.zero_sub s.a).symm.trans (differenceOf_false 0 s.a).symm
    rw [hneg]
    exact congrArg (fun p => done 8 (s.setAF p)) (sub8_eq 0 s.a false)
  · rw [← s.carry_eq, ← ccf_flags_eq]
    rfl
  · exact congrArg (fun f => done 4 (s.setF f)) (keepSZP_eq_or s.f s.a false false true).symm
  · exact congrArg (fun p => done 4 (s.setAF p)) (rotA_eq_shifted .rlc s.a s.f)
  · exact congrArg (fun p => done 4 (s.setAF p)) (rotA_eq_shifted .rl s.a s.f)
  · exact congrArg (fun p => done 4 (s.setAF p)) (rotA_eq_shifted .rrc s.a s.f)
  · exact congrArg (fun p => done 4 (s.setAF p)) (rotA_eq_shifted .rr s.a s.f)

end Sys2Proof.Machine

/-! SUPPORT. 16-bit arithmetic: carries, borrows and overflow of words from the bits of operands and result, and `Add16`, `Adc16` and
`Sbc16` in closed form (40_alu_flags.md R163-R165); then the statements (42_arith_logic.md R267-R271). -/

namespace Sys2Proof.Machine

variable {i : Instr} {s : State} {cost : Nat} {x : Idx}

/-! ## Words bit by bit -/

theorem getLsbD_hiByte (w : Word) {k : Nat} (hk : k < 8) : (hiByte w).getLsbD k = w.getLsbD (8 + k) := by
  rw [hiByte, BitVec.getLsbD_extractLsb', decide_eq_true hk, Bool.true_and]

/-- Bit 11 is the top bit of the low twelve. -/
theorem getLsbD_eleven (w : Word) : w.getLsbD 11 = decide (2048 ≤ w.toNat % 4096) := by
  rw [BitVec.getLsbD, Nat.testBit_eq_decide_div_mod_eq, decide_eq_decide]
  omega

theorem getLsbD_fifteen (w : Word) : w.getLsbD 15 = decide (32768 ≤ w.toNat) := BitVec.msb_eq_decide w

/-! ## Carries and borrows of words -/

/-- The sum of two words and a carry in (R163, R164). -/
def sumOf16 (a b : Word) (c : Bool) : Word := a + b + BitVec.ofNat 16 c.toNat

/-- The difference of two words and a borrow in (R165). -/
def differenceOf16 (a b : Word) (c : Bool) : Word := a - b - BitVec.ofNat 16 c.toNat

theorem toNat_sumOf16 (a b : Word) (c : Bool) : (sumOf16 a b c).toNat = (a.toNat + b.toNat + c.toNat) % 65536 := by
  have hc := c.toNat_le
  simp only [sumOf16, BitVec.toNat_add, BitVec.toNat_ofNat]
  omega

theorem toNat_differenceOf16 (a b : Word) (c : Bool) :
    (differenceOf16 a b c).toNat = (a.toNat + (65536 - b.toNat) + (65536 - c.toNat)) % 65536 := by
  have hc := c.toNat_le
  simp only [differenceOf16, BitVec.toNat_sub, BitVec.toNat_ofNat]
  omega

/-- The carry out of bit 11, from the bits of the operands and of the sum (R155, R163). -/
theorem carry_eleven (a b : Word) (c : Bool) :
    Bool.atLeastTwo (a.getLsbD 11) (b.getLsbD 11) (!(sumOf16 a b c).getLsbD 11)
      = decide (0xFFF < a.toNat % 4096 + b.toNat % 4096 + c.toNat) := by
  have hr := toNat_sumOf16 a b c
  have hc := c.toNat_le
  rw [Bool.eq_iff_iff]
  simp only [getLsbD_eleven, Bool.atLeastTwo, Bool.or_eq_true, Bool.and_eq_true, Bool.not_eq_true', decide_eq_true_eq,
    decide_eq_false_iff_not]
  omega

/-- The borrow out of bit 11, from the bits of the operands and of the difference (R155, R165). -/
theorem borrow_eleven (a b : Word) (c : Bool) :
    (!Bool.atLeastTwo (a.getLsbD 11) (!b.getLsbD 11) (!(differenceOf16 a b c).getLsbD 11))
      = decide (a.toNat % 4096 < b.toNat % 4096 + c.toNat) := by
  have hr := toNat_differenceOf16 a b c
  have hc := c.toNat_le
  have ha := a.isLt
  have hb := b.isLt
  rw [Bool.eq_iff_iff]
  simp only [getLsbD_eleven, Bool.atLeastTwo, Bool.not_eq_true', Bool.not_eq_false', Bool.or_eq_false_iff,
    Bool.and_eq_false_iff, decide_eq_true_eq, decide_eq_false_iff_not]
  omega

/-- Overflow of a sum of words, from the bits of the operands and of the sum (R155, R164). -/
theorem overflow_sumOf16 (a b : Word) (c : Bool) :
    ((a.getLsbD 15 ^^ !b.getLsbD 15) && (a.getLsbD 15 ^^ (sumOf16 a b c).getLsbD 15))
      = decide (a.toInt + b.toInt + c.toNat < -32768 ∨ 32767 < a.toInt + b.toInt + c.toNat) := by
  have hr := toNat_sumOf16 a b c
  have hc := c.toNat_le
  have ha := a.isLt
  have hb := b.isLt
  rw [Bool.eq_iff_iff]
  simp only [getLsbD_fifteen, BitVec.toInt_eq_toNat_cond, Bool.and_eq_true, bne_iff_ne, ne_eq, ← decide_not,
    decide_eq_decide, decide_eq_true_eq]
  split <;> split <;> omega

/-- Overflow of a difference of words, from the bits of the operands and of the difference (R155, R165). -/
theorem overflow_differenceOf16 (a b : Word) (c : Bool) :
    ((a.getLsbD 15 ^^ b.getLsbD 15) && (a.getLsbD 15 ^^ (differenceOf16 a b c).getLsbD 15))
      = decide (a.toInt - b.toInt - c.toNat < -32768 ∨ 32767 < a.toInt - b.toInt - c.toNat) := by
  have hr := toNat_differenceOf16 a b c
  have hc := c.toNat_le
  have ha := a.isLt
  have hb := b.isLt
  rw [Bool.eq_iff_iff]
  simp only [getLsbD_fifteen, BitVec.toInt_eq_toNat_cond, Bool.and_eq_true, bne_iff_ne, ne_eq,
    decide_eq_decide, decide_eq_true_eq]
  split <;> split <;> omega

/-! ## The 16-bit primitives in closed form -/

theorem carryIndex16_and_seven (a b r : Word) :
    carryIndex16 a b r &&& 7 = index3 (a.getLsbD 11) (b.getLsbD 11) (r.getLsbD 11) := by
  rw [carryIndex16, carryIndex_and_seven, getLsbD_hiByte a (by decide), getLsbD_hiByte b (by decide),
    getLsbD_hiByte r (by decide)]

theorem carryIndex16_shiftRight_four (a b r : Word) :
    carryIndex16 a b r >>> 4 = index3 (a.getLsbD 15) (b.getLsbD 15) (r.getLsbD 15) := by
  rw [carryIndex16, carryIndex_shiftRight_four, getLsbD_hiByte a (by decide), getLsbD_hiByte b (by decide),
    getLsbD_hiByte r (by decide)]

theorem flagIf_fZ (c : Bool) : flagIf c fZ = flagByte false c false false false false false false := by cases c <;> rfl

/-- The flags that ADC and SBC take from the high byte of the result (R164, R165). -/
theorem hiByte_and_fS_f5_f3 (r : Word) : hiByte r &&& (fS ||| f5 ||| f3)
    = flagByte (r.getLsbD 15) false (r.getLsbD 13) false (r.getLsbD 11) false false false := by
  have hbyte : ∀ u : Byte, u &&& (fS ||| f5 ||| f3)
    = flagByte (u.getLsbD 7) false (u.getLsbD 5) false (u.getLsbD 3) false false false := by decide
  rw [hbyte, getLsbD_hiByte r (by decide), getLsbD_hiByte r (by decide), getLsbD_hiByte r (by decide)]

/-- The flags of `Add16` (R163). -/
def add16Flags (f : Byte) (a b : Word) : Byte :=
  keepSZP f (hiByte (a + b)) (decide (0xFFF < a.toNat % 4096 + b.toNat % 4096)) false (decide (0xFFFF < a.toNat + b.toNat))

/-- The flags of `Adc16` (R164). -/
def adc16Flags (a b : Word) (c : Bool) : Byte :=
  let r := sumOf16 a b c
  flagByte (r.getLsbD 15) (r == 0) (r.getLsbD 13) (decide (0xFFF < a.toNat % 4096 + b.toNat % 4096 + c.toNat))
    (r.getLsbD 11) (decide (a.toInt + b.toInt + c.toNat < -32768 ∨ 32767 < a.toInt + b.toInt + c.toNat)) false
    (decide (0xFFFF < a.toNat + b.toNat + c.toNat))

/-- The flags of `Sbc16` (R165). -/
def sbc16Flags (a b : Word) (c : Bool) : Byte :=
  let r := differenceOf16 a b c
  flagByte (r.getLsbD 15) (r == 0) (r.getLsbD 13) (decide (a.toNat % 4096 < b.toNat % 4096 + c.toNat)) (r.getLsbD 11)
    (decide (a.toInt - b.toInt - c.toNat < -32768 ∨ 32767 < a.toInt - b.toInt - c.toNat)) true
    (decide (a.toNat < b.toNat + c.toNat))

/-- `Add16` in closed form (R163). -/
theorem add16_eq (a b : Word) (f : Byte) : add16 a b f = (a + b, add16Flags f a b) := by
  have hsum : a + b = sumOf16 a b false := (BitVec.add_zero (a + b)).symm
  have hH : Bool.atLeastTwo (a.getLsbD 11) (b.getLsbD 11) (!(a + b).getLsbD 11)
      = decide (0xFFF < a.toNat % 4096 + b.toNat % 4096) := by
    rw [hsum]
    exact carry_eleven a b false
  rw [add16, carryIndex16_and_seven, hcAdd_index3, hH, and_fS_fZ_fPV_eq_flagByte, and_f5_f3_eq_flagByte, flagIf_fC, flagIf_fH]
  simp only [flagByte_or, Bool.false_or, Bool.or_false, add16Flags, keepSZP]

/-- `Adc16` in closed form (R164). -/
theorem adc16_eq (a b : Word) (c : Bool) : adc16 a b c = (sumOf16 a b c, adc16Flags a b c) := by
  have hsum : BitVec.ofNat 16 (a.toNat + b.toNat + c.toNat) = sumOf16 a b c :=
    BitVec.eq_of_toNat_eq ((BitVec.toNat_ofNat _ _).trans (toNat_sumOf16 a b c).symm)
  rw [adc16, hsum, carryIndex16_and_seven, carryIndex16_shiftRight_four, hcAdd_index3, ovAdd_index3, carry_eleven,
    overflow_sumOf16, hiByte_and_fS_f5_f3, flagIf_fC, flagIf_fH, flagIf_fPV, flagIf_fZ]
  simp only [flagByte_or, Bool.false_or, Bool.or_false, adc16Flags]

/-- The difference over the integers, modulo 2^16 (R165). -/
theorem ofInt_sub_eq_differenceOf16 (a b : Word) (c : Bool) :
    BitVec.ofInt 16 ((a.toNat : Int) - b.toNat - c.toNat) = differenceOf16 a b c := by
  have hc := c.toNat_le
  have hb := b.isLt
  apply BitVec.eq_of_toNat_eq
  rw [toNat_differenceOf16, BitVec.toNat_ofInt]
  omega

/-- `Sbc16` in closed form (R165). -/
theorem sbc16_eq (a b : Word) (c : Bool) : sbc16 a b c = (differenceOf16 a b c, sbc16Flags a b c) := by
  have hC : decide ((a.toNat : Int) - b.toNat - c.toNat < 0) = decide (a.toNat < b.toNat + c.toNat) := by
    rw [decide_eq_decide]
    omega
  rw [sbc16, ofInt_sub_eq_differenceOf16, carryIndex16_and_seven, carryIndex16_shiftRight_four, hcSub_index3, ovSub_index3,
    borrow_eleven, overflow_differenceOf16, hC, hiByte_and_fS_f5_f3, fN_eq_flagByte, flagIf_fC, flagIf_fH, flagIf_fPV, flagIf_fZ]
  simp only [flagByte_or, Bool.false_or, Bool.or_false, sbc16Flags]

/-! ## Instructions that write a word and F -/

/-- An instruction that writes a primitive's word to HL and its flags to F. -/
theorem runs_setHl_setF {p q : Word × Byte} (hp : p = q) (h : exec i s = done cost ((s.setHl p.1).setF p.2)) :
    ∃ t, Runs i s t cost [.reg .h, .reg .l, .f] [] ∧ t.hl = q.1 ∧ t.f = q.2 := by
  subst hp
  exact ⟨_, Runs.ofDone h rfl ((Frame.setHl s p.1).trans (Frame.setF _ p.2)), s.hl_setHl p.1, rfl⟩

/-- An instruction that writes a primitive's word to X and its flags to F. -/
theorem runs_setIdx_setF {p q : Word × Byte} (hp : p = q) (h : exec i s = done cost ((s.setIdx x p.1).setF p.2)) :
    ∃ t, Runs i s t cost [.idx x, .f] [] ∧ t.idx x = q.1 ∧ t.f = q.2 := by
  subst hp
  refine ⟨_, Runs.ofDone h (State.cycles_setIdx s x p.1) ((Frame.setIdx s x p.1).trans (Frame.setF _ p.2)), ?_, rfl⟩
  cases x <;> rfl

/-! ## ADD, INC and DEC -/

theorem State.pairX_eq (s : State) (x : Idx) (rp : RegPair) :
    s.pairX x rp = if rp = .hl then s.idx x else s.pair rp := by cases rp <;> rfl

/-- A byte with rp in bits 5 and 4, and 0 above them, is below CB, ED, DD and FD (R107). -/
theorem toNat_zero_append_rp_lt : ∀ (rp : RegPair) (low : BitVec 4), (0b00#2 ++ rp.code ++ low : Byte).toNat < 0xC0 := by
  intro rp
  cases rp <;> decide

theorem toNat_sub_one (w : Word) : (w - 1).toNat = (w.toNat + 65535) % 65536 := by
  rw [BitVec.toNat_sub, Nat.add_comm]
  rfl

/-- Settles O36: the additions by the closed form of `Add16`, INC and DEC as one write of a pair or of X. -/
theorem addAndCount16 : Obligations.AddAndCount16 := by
  refine ⟨fun rp => ⟨.ofBelowPrefixes rfl (toNat_zero_append_rp_lt rp _) rfl rfl, fun x => .ofPrefixed rfl rfl rfl⟩,
    fun s rp => ⟨?_, fun x v hv => ?_⟩,
    fun rp => ⟨.ofBelowPrefixes rfl (toNat_zero_append_rp_lt rp _) rfl rfl,
      .ofBelowPrefixes rfl (toNat_zero_append_rp_lt rp _) rfl rfl⟩,
    fun x => ⟨.ofPrefixed rfl rfl rfl, .ofPrefixed rfl rfl rfl⟩, fun s => ⟨fun rp => ⟨?_, ?_⟩, fun x => ⟨?_, ?_⟩⟩⟩
  · exact runs_setHl_setF (add16_eq s.hl (s.pair rp) s.f) rfl
  · rw [← s.pairX_eq] at hv
    subst hv
    exact runs_setIdx_setF (add16_eq (s.idx x) (s.pairX x rp) s.f) rfl
  · obtain ⟨t, ht, hw⟩ := runs_setPair (i := .incRp rp) (s := s) rfl
    exact ⟨t, ht, (congrArg BitVec.toNat hw).trans (BitVec.toNat_add _ _)⟩
  · obtain ⟨t, ht, hw⟩ := runs_setPair (i := .decRp rp) (s := s) rfl
    exact ⟨t, ht, (congrArg BitVec.toNat hw).trans (toNat_sub_one _)⟩
  · obtain ⟨t, ht, hw⟩ := runs_setIdx (i := .incX x) (s := s) rfl
    exact ⟨t, ht, (congrArg BitVec.toNat hw).trans (BitVec.toNat_add _ _)⟩
  · obtain ⟨t, ht, hw⟩ := runs_setIdx (i := .decX x) (s := s) rfl
    exact ⟨t, ht, (congrArg BitVec.toNat hw).trans (toNat_sub_one _)⟩

/-! ## ADC and SBC -/

/-- Settles O37, by the closed forms of `Adc16` and `Sbc16`. -/
theorem addSubtractWithCarry16 : Obligations.AddSubtractWithCarry16 := by
  refine ⟨fun rp => ⟨encodes_encode (.adcHlRp rp) rfl rfl, encodes_encode (.sbcHlRp rp) rfl rfl⟩,
    fallsBack_of_usesHL_eq_false rfl (by decide), ?_⟩
  rintro s rp _ _ _ rfl rfl rfl
  rw [← s.carry_eq]
  constructor
  · obtain ⟨t, ht, hhl, hf⟩ := runs_setHl_setF (i := .adcHlRp rp) (adc16_eq s.hl (s.pair rp) s.carry) rfl
    refine ⟨t, ht, hhl, ?_⟩
    rw [hhl]
    exact hf
  · obtain ⟨t, ht, hhl, hf⟩ := runs_setHl_setF (i := .sbcHlRp rp) (sbc16_eq s.hl (s.pair rp) s.carry) rfl
    refine ⟨t, ht, hhl, ?_⟩
    rw [hhl]
    exact hf

end Sys2Proof.Machine

/-! SUPPORT. The nibble rotates: the nibbles of a byte, what RLD and RRD run to, and the statement about them (43_bit_rotate.md
R316, R317). -/

namespace Sys2Proof.Machine

variable {i : Instr} {s : State}

/-! ## The nibbles of a byte -/

theorem and_0xF0_eq_append : ∀ v : Byte, v &&& 0xF0 = v.extractLsb' 4 4 ++ 0#4 := by decide

theorem shiftLeft_four_eq_append : ∀ v : Byte, v <<< 4 = v.extractLsb' 0 4 ++ 0#4 := by decide

theorem shiftRight_four_eq_append : ∀ v : Byte, v >>> 4 = 0#4 ++ v.extractLsb' 4 4 := by decide

theorem and_0x0F_eq_append : ∀ v : Byte, v &&& 0x0F = 0#4 ++ v.extractLsb' 0 4 := by decide

/-- A byte put together from a nibble in its high half and one in its low half. -/
theorem high_or_low : ∀ h l : BitVec 4, ((h ++ 0#4 ||| 0#4 ++ l) : Byte) = h ++ l := by decide

theorem highNibble_append_lowNibble : ∀ v : Byte, v.extractLsb' 4 4 ++ v.extractLsb' 0 4 = v := by decide

/-! ## RLD and RRD -/

/-- An instruction that stores a byte at HL and writes A, with the flags of the new A (R316). -/
theorem runs_storeAtHl_setAF {a m : Byte} (h : exec i s = done 18 ((s.writeByte s.hl m).setAF (a, sz53pKeepC a s.f))) :
    ∃ t, Runs i s t 18 [.reg .a, .f] [s.hl] ∧ t.a = a ∧ Holds s t s.hl m
      ∧ t.f = parityFlags t.a false false (s.f.getLsbD 0) :=
  ⟨_, Runs.ofDone h rfl ((Frame.writeByte s s.hl m).trans (Frame.setAF _ _)), rfl, State.readByte_writeByte_same s.hl m,
    sz53pKeepC_eq_parityFlags a s.f⟩

/-- RLD turns three nibbles left: memory's high one goes to A's low half, its low one up, and A's low one below it (R316). -/
theorem runs_rld (s : State) : ∃ t, Runs .rld s t 18 [.reg .a, .f] [s.hl]
    ∧ t.a = s.a.extractLsb' 4 4 ++ (s.readByte s.hl).extractLsb' 4 4
    ∧ Holds s t s.hl ((s.readByte s.hl).extractLsb' 0 4 ++ s.a.extractLsb' 0 4)
    ∧ t.f = parityFlags t.a false false (s.f.getLsbD 0) := by
  rw [← high_or_low (s.a.extractLsb' 4 4), ← high_or_low _ (s.a.extractLsb' 0 4), ← and_0xF0_eq_append,
    ← shiftRight_four_eq_append, ← shiftLeft_four_eq_append, ← and_0x0F_eq_append]
  exact runs_storeAtHl_setAF rfl

/-- RRD turns them right: memory's low nibble goes to A's low half, its high one down, and A's low one above it (R317). -/
theorem runs_rrd (s : State) : ∃ t, Runs .rrd s t 18 [.reg .a, .f] [s.hl]
    ∧ t.a = s.a.extractLsb' 4 4 ++ (s.readByte s.hl).extractLsb' 0 4
    ∧ Holds s t s.hl (s.a.extractLsb' 0 4 ++ (s.readByte s.hl).extractLsb' 4 4)
    ∧ t.f = parityFlags t.a false false (s.f.getLsbD 0) := by
  rw [← high_or_low (s.a.extractLsb' 4 4), ← high_or_low (s.a.extractLsb' 0 4), ← and_0xF0_eq_append,
    ← and_0x0F_eq_append, ← shiftLeft_four_eq_append, ← shiftRight_four_eq_append]
  exact runs_storeAtHl_setAF rfl

/-- RLD stores a byte and writes A and F, so memory stays canonical and HL is kept. -/
theorem wf_and_hl_of_rld {t : State} (hs : s.mem.wf = true) (ht : exec .rld s = .next t) : t.mem.wf = true ∧ t.hl = s.hl := by
  cases ht
  exact ⟨State.writeByte_wf _ _ hs, rfl⟩

/-- RRD is the inverse of RLD on A and memory (R317). -/
theorem rrd_rld {t u : State} (hs : s.mem.wf = true) (ht : exec .rld s = .next t) (hu : exec .rrd t = .next u) :
    u.a = s.a ∧ ∀ a : Word, u.readByte a = s.readByte a := by
  obtain ⟨hwf, hhl⟩ := wf_and_hl_of_rld hs ht
  obtain ⟨t', ⟨ht', -, -, htkeep⟩, hta, htm, -⟩ := runs_rld s
  cases ht'.symm.trans ht
  obtain ⟨u', ⟨hu', -, -, hukeep⟩, hua, hum, -⟩ := runs_rrd t
  cases hu'.symm.trans hu
  rw [hhl] at hukeep hua hum
  have humem := hum hwf
  rw [hta, htm hs, BitVec.extractLsb'_append_eq_left, BitVec.extractLsb'_append_eq_right] at hua humem
  refine ⟨hua.trans (highNibble_append_lowNibble s.a), fun a => ?_⟩
  by_cases ha : a = s.hl
  · subst ha
    exact humem.trans (highNibble_append_lowNibble _)
  · have hmem : a ∉ [s.hl] := by rwa [List.mem_singleton]
    exact (hukeep a hmem).trans (htkeep a hmem)

/-- Settles O43: RLD and RRD nibble by nibble, then RRD after RLD. -/
theorem nibbleRotates : Obligations.NibbleRotates := by
  refine ⟨encodes_encode .rld rfl rfl, encodes_encode .rrd rfl rfl, ?_, fun _ _ _ => rrd_rld⟩
  rintro s _ rfl
  exact ⟨runs_rld s, runs_rrd s⟩

end Sys2Proof.Machine

/-! SUPPORT. Control transfer: an instruction that writes PC, pushes and jumps, returns, or does nothing runs, with what it leaves
there; then the statements (44_control.md R340-R350, 45_block_io_system.md R399, R400). -/

namespace Sys2Proof.Machine

variable {i : Instr} {s : State} {cost : Nat}

/-! ## Encodings -/

/-- An opcode byte that is none of CB, ED, DD and FD is the only opcode fetch, whatever operand bytes follow it (R103). -/
theorem Encodes.ofUnprefixed {op : Byte} {operands : List Byte} (hb : encode i = op :: operands)
    (hop : ¬(op = 0xCB ∨ op = 0xED ∨ op = 0xDD ∨ op = 0xFD)) (hw : i.wellFormed = true) (hl : lookahead i = []) :
    Encodes (op :: operands) 1 i := by
  refine .ofEncode hb ?_ hw hl
  rw [opcodeFetches, hl, hb]
  exact if_neg hop

/-- CB has z = 3, and ED, DD and FD have z = 5 (R104), so no conditional jump, call or return and no restart is one. -/
theorem three_append_ne_prefixByte : ∀ y z : BitVec 3, z ≠ 3 ∧ z ≠ 5 →
    ¬((0b11#2 ++ y ++ z : Byte) = 0xCB ∨ (0b11#2 ++ y ++ z : Byte) = 0xED ∨ (0b11#2 ++ y ++ z : Byte) = 0xDD
      ∨ (0b11#2 ++ y ++ z : Byte) = 0xFD) := by decide

/-- ED 45 and the six other bytes that decode to it (R399). -/
theorem encodes_retn {op : Byte} (h : op ∈ [(0x45 : Byte), 0x55, 0x5D, 0x65, 0x6D, 0x75, 0x7D]) :
    Encodes [0xED, op] 2 .retn := by
  intro rest
  simp only [List.mem_cons, List.not_mem_nil, or_false] at h
  obtain rfl | rfl | rfl | rfl | rfl | rfl | rfl := h <;> rfl

/-! ## Instructions that change nothing, or PC -/

/-- A call or return that is not taken (R347, R349). -/
theorem runs_unchanged (h : exec i s = done cost s) : ∃ t, Runs i s t cost [] [] := ⟨_, Runs.ofDone h rfl (Frame.refl s)⟩

theorem runs_withPc {w : Word} (h : exec i s = done cost (s.withPc w)) : ∃ t, Runs i s t cost [.pc] [] ∧ t.pc = w :=
  ⟨_, Runs.ofDone h rfl (Frame.withPc s w), rfl⟩

/-- The displacement as an integer (R342). -/
theorem State.jumpRelative_eq (s : State) (e : Byte) : s.jumpRelative e = s.withPc (s.pc + BitVec.ofInt 16 e.toInt) := rfl

/-- JP cc,nn as one write of PC: not taken, it writes the PC it finds (R341). -/
theorem exec_jpCcNn (s : State) (cc : Cond) (nn : Word) :
    exec (.jpCcNn cc nn) s = done 10 (s.withPc (if s.cond cc then nn else s.pc)) := by
  change done 10 (if s.cond cc then s.withPc nn else s) = _
  cases s.cond cc <;> rfl

/-- JR cc,e as one write of PC (R343). -/
theorem exec_jrCc (s : State) (cc : Cond) (e : Byte) : exec (.jrCc cc e) s =
    done (if s.cond cc then 12 else 7) (s.withPc (if s.cond cc then s.pc + BitVec.ofInt 16 e.toInt else s.pc)) := by
  change (if s.cond cc then done 12 (s.jumpRelative e) else done 7 s) = _
  cases s.cond cc <;> rfl

theorem sub_one_eq_zero : ∀ b : Byte, b - 1 = 0 ↔ b = 1 := by decide

/-- DJNZ as one write of B and one of PC; B counts down to 0 exactly from 1 (R345). -/
theorem exec_djnz (s : State) (e : Byte) : exec (.djnz e) s = done (if s.reg .b = 1 then 8 else 13)
    ((s.setReg .b (s.reg .b - 1)).withPc (if s.reg .b = 1 then s.pc else s.pc + BitVec.ofInt 16 e.toInt)) := by
  change (if s.reg .b - 1 ≠ 0 then done 13 ((s.setReg .b (s.reg .b - 1)).jumpRelative e)
    else done 8 (s.setReg .b (s.reg .b - 1))) = _
  by_cases hb : s.reg .b = 1
  · rw [if_neg (fun h => h ((sub_one_eq_zero _).2 hb)), if_pos hb, if_pos hb]
    rfl
  · rw [if_pos (fun h => hb ((sub_one_eq_zero _).1 h)), if_neg hb, if_neg hb]
    rfl

/-- The conditions as bits of F (R108). -/
theorem State.cond_eq_bits (s : State) : (s.cond .nz = !s.f.getLsbD 6) ∧ s.cond .z = s.f.getLsbD 6
    ∧ (s.cond .nc = !s.f.getLsbD 0) ∧ s.cond .c = s.f.getLsbD 0 ∧ (s.cond .po = !s.f.getLsbD 2)
    ∧ s.cond .pe = s.f.getLsbD 2 ∧ (s.cond .p = !s.f.getLsbD 7) ∧ s.cond .m = s.f.getLsbD 7 := by
  simp only [State.cond, hasFlag_fZ, hasFlag_fC, hasFlag_fPV, hasFlag_fS, and_self]

/-- Settles O44: each jump is one write of PC, DJNZ after one of B. -/
theorem jumps : Obligations.Jumps := by
  refine ⟨fun lo hi => ⟨?_, fun cc => ?_⟩, fun e => ⟨?_, ?_, ?_, ?_, ?_, ?_⟩, encodes_encode .jpHl rfl rfl,
    fun x => .ofPrefixed rfl rfl rfl, State.cond_eq_bits,
    fun s => ⟨fun nn => runs_withPc rfl, fun cc nn => runs_withPc (exec_jpCcNn s cc nn),
      fun e => runs_withPc (congrArg (done 12) (s.jumpRelative_eq e)), fun cc e => runs_withPc (exec_jrCc s cc e),
      runs_withPc rfl, fun x => runs_withPc rfl, fun e => ?_⟩⟩
  · exact .ofEncode (encode_word (pre := [_]) (fun _ => rfl) lo hi) rfl rfl rfl
  · exact .ofUnprefixed (encode_word (pre := [_]) (fun _ => rfl) lo hi) (three_append_ne_prefixByte _ _ (by decide)) rfl rfl
  · exact encodes_encode (.jr e) rfl rfl
  · exact encodes_encode (.jrCc .nz e) rfl rfl
  · exact encodes_encode (.jrCc .z e) rfl rfl
  · exact encodes_encode (.jrCc .nc e) rfl rfl
  · exact encodes_encode (.jrCc .c e) rfl rfl
  · exact encodes_encode (.djnz e) rfl rfl
  · exact ⟨_, Runs.ofDone (exec_djnz s e) rfl ((Frame.setReg s .b _).trans (Frame.withPc _ _)), rfl, rfl⟩

/-! ## Calls and restarts -/

/-- A call or restart that is taken: a push, then a write of PC (R346, R350). -/
theorem runs_push_withPc {v w : Word} (h : exec i s = done cost ((s.push v).withPc w)) :
    ∃ t, Runs i s t cost [.sp, .pc] [s.sp - 2, s.sp - 1] ∧ t.sp = s.sp - 2 ∧ t.pc = w
      ∧ Holds s t (s.sp - 2) (loByte v) ∧ Holds s t (s.sp - 1) (hiByte v) :=
  ⟨_, Runs.ofDone h rfl ((Frame.push s v).trans (Frame.withPc _ w)), rfl, rfl, State.readByte_push_low v,
    State.readByte_push_high v⟩

/-- The restart addresses fit a word (R350). -/
theorem toNat_rstAddress (y : Index8) : (BitVec.ofNat 16 (y.val * 8)).toNat = y.val * 8 := by cases y <;> rfl

/-- Settles O45: taken, each form is a push of PC and a jump. -/
theorem callsAndRestarts : Obligations.CallsAndRestarts := by
  refine ⟨fun lo hi => ⟨?_, fun cc => ?_⟩, fun y => .ofUnprefixed rfl (three_append_ne_prefixByte _ _ (by decide)) rfl rfl,
    fun s => ⟨fun nn => runs_push_withPc rfl, fun cc nn hcc => runs_push_withPc (if_pos hcc),
      fun cc nn hcc => runs_unchanged (if_neg (Bool.eq_false_iff.1 hcc)), fun y => ?_⟩⟩
  · exact .ofEncode (encode_word (pre := [_]) (fun _ => rfl) lo hi) rfl rfl rfl
  · exact .ofUnprefixed (encode_word (pre := [_]) (fun _ => rfl) lo hi) (three_append_ne_prefixByte _ _ (by decide)) rfl rfl
  · obtain ⟨t, ht, hsp, hpc, hlow, hhigh⟩ := runs_push_withPc (i := .rst y) (s := s) rfl
    exact ⟨t, ht, hsp, (congrArg BitVec.toNat hpc).trans (toNat_rstAddress y), hlow, hhigh⟩

/-! ## Returns -/

/-- A return that is taken (R348, R349). -/
theorem runs_returnPc (h : exec i s = done cost s.returnPc) :
    ∃ t, Runs i s t cost [.sp, .pc] [] ∧ t.pc = s.top ∧ t.sp = s.sp + 2 :=
  ⟨_, Runs.ofDone h rfl (Frame.returnPc s), rfl, rfl⟩

/-- RETN and RETI: a return that also copies IFF2 into IFF1 (R399, R400). -/
theorem runs_returnFromInterrupt (h : exec i s = done cost s.returnFromInterrupt) :
    ∃ t, Runs i s t cost [.sp, .pc, .iff1] [] ∧ t.pc = s.top ∧ t.sp = s.sp + 2 ∧ t.iff1 = s.iff2 :=
  ⟨_, Runs.ofDone h rfl ((Frame.returnPc s).trans (Frame.withIff1 _ s.iff2)), rfl, rfl, rfl⟩

/-- Settles O46: RET and RET cc are the plain return, RETN and RETI the return from an interrupt. -/
theorem returns : Obligations.Returns := by
  refine ⟨encodes_encode .ret rfl rfl, fun cc => .ofUnprefixed rfl (three_append_ne_prefixByte _ _ (by decide)) rfl rfl,
    encodes_encode .reti rfl rfl, fun op => encodes_retn, ?_⟩
  rintro s _ rfl
  exact ⟨runs_returnPc rfl, fun cc hcc => runs_returnPc (if_pos hcc),
    fun cc hcc => runs_unchanged (if_neg (Bool.eq_false_iff.1 hcc)), runs_returnFromInterrupt rfl,
    runs_returnFromInterrupt rfl⟩

end Sys2Proof.Machine

/-! SUPPORT. Block transfers, compares and outputs: the flags of one element in closed form, and each instruction as one element and
the end of a block instruction (40_alu_flags.md R171-R173, 45_block_io_system.md R370-R377, R388-R391, R402); then the statements. -/

namespace Sys2Proof.Machine

variable {i : Instr} {δ : Word} {repeats : Bool}

theorem sub_eq_zero_iff_eq {k : Nat} (x y : BitVec k) : x - y = 0 ↔ x = y := by
  rw [BitVec.sub_eq_iff_eq_add, BitVec.ofNat_eq_ofNat, BitVec.zero_add]

/-- A count is 0 after the decrement exactly from 1. -/
theorem sub_one_bne_zero (w : Word) : (w - 1 != 0) = (w != 1) := by
  rw [Bool.eq_iff_iff, bne_iff_ne, bne_iff_ne, ne_eq, ne_eq, sub_eq_zero_iff_eq]

/-! ## The flags of one element -/

theorem flagIf_f5 (c : Bool) : flagIf c f5 = flagByte false false c false false false false false := by cases c <;> rfl

theorem and_f3_eq_flagByte : ∀ n : Byte,
    n &&& f3 = flagByte false false false false (n.getLsbD 3) false false false := by decide

theorem and_fS_eq_flagByte : ∀ r : Byte,
    r &&& fS = flagByte (r.getLsbD 7) false false false false false false false := by decide

theorem and_fS_fZ_fC_eq_flagByte : ∀ f : Byte, f &&& (fS ||| fZ ||| fC)
    = flagByte (f.getLsbD 7) (f.getLsbD 6) false false false false false (f.getLsbD 0) := by decide

/-- The flags of a block transfer in closed form (R171). -/
theorem ldBlockFlags_eq_flagByte (v a : Byte) (bcn : Word) (fin : Byte) : ldBlockFlags v a bcn fin =
    flagByte (fin.getLsbD 7) (fin.getLsbD 6) ((v + a).getLsbD 1) false ((v + a).getLsbD 3) (bcn != 0) false
      (fin.getLsbD 0) := by
  rw [ldBlockFlags, and_fS_fZ_fC_eq_flagByte, flagIf_fPV, and_f3_eq_flagByte, flagIf_f5]
  simp only [flagByte_or, Bool.false_or, Bool.or_false]

/-- The lookup of a difference finds the borrow out of bit 3 (R155). -/
theorem hcSub_carryIndex (a v : Byte) : hcSub (carryIndex a v (a - v) &&& 7) = flagIf (halfBorrow a v false) fH := by
  rw [carryIndex_and_seven, hcSub_index3, halfBorrow_eq_not_halfCarry, ← atLeastTwo_bit_three, ← differenceOf_eq_sumOf_not,
    differenceOf_false, BitVec.getLsbD_not]
  rfl

/-- The flags of a block compare in closed form; F5 and F3 come from `A - v - H` (R172). -/
theorem cpBlockFlags_eq_flagByte (v a : Byte) (bcn : Word) (fin : Byte) {n : Byte}
    (hn : n = a - v - (if halfBorrow a v false then 1 else 0)) : cpBlockFlags v a bcn fin =
    flagByte ((a - v).getLsbD 7) (a == v) (n.getLsbD 1) (halfBorrow a v false) (n.getLsbD 3) (bcn != 0) true
      (fin.getLsbD 0) := by
  have hH : (if flagIf (halfBorrow a v false) fH != 0 then a - v - 1 else a - v) = n := by
    rw [hn]
    cases halfBorrow a v false
    · exact (BitVec.sub_zero _).symm
    · rfl
  have hZ : (a - v == 0) = (a == v) := by rw [Bool.eq_iff_iff, beq_iff_eq, beq_iff_eq, sub_eq_zero_iff_eq]
  rw [cpBlockFlags, hcSub_carryIndex, hH, hZ, and_fC_eq_flagByte, fN_eq_flagByte, flagIf_fPV, flagIf_fH, flagIf_fZ,
    and_fS_eq_flagByte, and_f3_eq_flagByte, flagIf_f5]
  simp only [flagByte_or, Bool.false_or, Bool.or_false]

/-! ## Transfer -/

/-- A block transfer is one element, then the end of a block instruction; a repeating form goes on while the new BC is not 0
(R370-R373, R402). -/
theorem exec_blockTransfer
    (h : (i, δ, repeats) ∈ [(Instr.ldi, (1 : Word), false), (.ldir, 1, true), (.ldd, -1, false), (.lddr, -1, true)])
    (s : State) : exec i s = finishBlock (repeats && s.bc - 1 != 0) (s.blockLd δ) := by
  simp only [List.mem_cons, List.not_mem_nil, or_false, Prod.mk.injEq] at h
  obtain ⟨rfl, rfl, rfl⟩ | ⟨rfl, rfl, rfl⟩ | ⟨rfl, rfl, rfl⟩ | ⟨rfl, rfl, rfl⟩ := h <;> rfl

/-- What a block transfer runs to, with memory as one write (R370-R373). -/
theorem runs_blockTransfer
    (h : (i, δ, repeats) ∈ [(Instr.ldi, (1 : Word), false), (.ldir, 1, true), (.ldd, -1, false), (.lddr, -1, true)])
    (s : State) : ∃ t, Runs i s t (if repeats = true ∧ s.bc ≠ 1 then 21 else 16)
        [.reg .b, .reg .c, .reg .d, .reg .e, .reg .h, .reg .l, .f, .pc] [s.de]
      ∧ t.mem = (s.writeByte s.de (s.readByte s.hl)).mem ∧ t.hl = s.hl + δ ∧ t.de = s.de + δ ∧ t.bc = s.bc - 1
      ∧ t.pc = (if repeats = true ∧ s.bc ≠ 1 then s.pc - 2 else s.pc)
      ∧ t.f = flagByte (s.f.getLsbD 7) (s.f.getLsbD 6) ((s.readByte s.hl + s.a).getLsbD 1) false
        ((s.readByte s.hl + s.a).getLsbD 3) (s.bc != 1) false (s.f.getLsbD 0) := by
  obtain ⟨t, ⟨hexec, hcycles, hframe⟩, hmain, hmem, -, -, hpc⟩ :=
    Runs.ofFinishBlock (exec_blockTransfer h s) rfl rfl (Frame.blockLd s δ)
  simp only [sub_one_bne_zero, Bool.and_eq_true, bne_iff_ne] at hcycles hpc
  refine ⟨t, ⟨hexec, hcycles, hframe.mono (by simp) (by simp)⟩, hmem, ?_, ?_, ?_, hpc, ?_⟩
  · rw [State.hl, hmain]
    exact mkWord_hiByte_loByte _
  · rw [State.de, hmain]
    exact mkWord_hiByte_loByte _
  · rw [State.bc, hmain]
    exact mkWord_hiByte_loByte _
  · rw [State.f, hmain, ← sub_one_bne_zero]
    exact ldBlockFlags_eq_flagByte _ _ _ _

/-- Settles O47: one element of the block, then the end of a block instruction. -/
theorem blockTransfer : Obligations.BlockTransfer := by
  refine ⟨encodes_encode .ldi rfl rfl, encodes_encode .ldir rfl rfl, encodes_encode .ldd rfl rfl,
    encodes_encode .lddr rfl rfl, fun s i δ repeats h => ?_⟩
  obtain ⟨t, hruns, hmem, hregs⟩ := runs_blockTransfer h s
  refine ⟨t, hruns, fun hs => ?_, hregs⟩
  rw [State.readByte, hmem]
  exact State.readByte_writeByte_same _ _ hs

/-! ## Compare -/

/-- A block compare is one element, then the end of a block instruction; a repeating form goes on while the new BC is not 0 and
the byte did not match (R374-R377, R402). -/
theorem exec_blockCompare
    (h : (i, δ, repeats) ∈ [(Instr.cpi, (1 : Word), false), (.cpir, 1, true), (.cpd, -1, false), (.cpdr, -1, true)])
    (s : State) : exec i s = finishBlock (repeats && s.cpGoesOn) (s.blockCp δ) := by
  simp only [List.mem_cons, List.not_mem_nil, or_false, Prod.mk.injEq] at h
  obtain ⟨rfl, rfl, rfl⟩ | ⟨rfl, rfl, rfl⟩ | ⟨rfl, rfl, rfl⟩ | ⟨rfl, rfl, rfl⟩ := h <;> rfl

/-- Settles O48: one element of the block, then the end of a block instruction. -/
theorem blockCompare : Obligations.BlockCompare := by
  refine ⟨encodes_encode .cpi rfl rfl, encodes_encode .cpir rfl rfl, encodes_encode .cpd rfl rfl,
    encodes_encode .cpdr rfl rfl, ?_⟩
  rintro s i δ repeats _ n h rfl hn
  obtain ⟨t, ⟨hexec, hcycles, hframe⟩, hmain, -, -, -, hpc⟩ :=
    Runs.ofFinishBlock (exec_blockCompare h s) rfl rfl (Frame.blockCp s δ)
  simp only [State.cpGoesOn, sub_one_bne_zero, Bool.and_eq_true, bne_iff_ne] at hcycles hpc
  refine ⟨t, ⟨hexec, hcycles, hframe.mono (by simp) (by simp)⟩, ?_, ?_, hpc, ?_⟩
  · rw [State.hl, hmain]
    exact mkWord_hiByte_loByte _
  · rw [State.bc, hmain]
    exact mkWord_hiByte_loByte _
  · rw [State.f, hmain, ← sub_one_bne_zero]
    exact cpBlockFlags_eq_flagByte _ _ _ _ hn

/-! ## Output -/

/-- A block output is one element, then the end of a block instruction; a repeating form goes on while the new B is not 0
(R388-R391, R402). -/
theorem exec_blockOutput
    (h : (i, δ, repeats) ∈ [(Instr.outi, (1 : Word), false), (.otir, 1, true), (.outd, -1, false), (.otdr, -1, true)])
    (s : State) : exec i s = finishBlock (repeats && s.reg .b - 1 != 0) (s.blockOut δ) := by
  simp only [List.mem_cons, List.not_mem_nil, or_false, Prod.mk.injEq] at h
  obtain ⟨rfl, rfl, rfl⟩ | ⟨rfl, rfl, rfl⟩ | ⟨rfl, rfl, rfl⟩ | ⟨rfl, rfl, rfl⟩ := h <;> rfl

/-- Settles O50: one element of the block, then the end of a block instruction. -/
theorem blockOutput : Obligations.BlockOutput := by
  refine ⟨encodes_encode .outi rfl rfl, encodes_encode .otir rfl rfl, encodes_encode .outd rfl rfl,
    encodes_encode .otdr rfl rfl, ?_⟩
  rintro s i δ repeats _ _ _ h rfl rfl rfl
  obtain ⟨t, ⟨hexec, hcycles, hframe⟩, hmain, -, -, hports, hpc⟩ :=
    Runs.ofFinishBlock (exec_blockOutput h s) rfl rfl (Frame.blockOut s δ)
  simp only [Bool.and_eq_true, bne_iff_ne] at hcycles hpc
  refine ⟨t, ⟨hexec, hcycles, hframe.mono (by simp) (by simp)⟩, ?_, ?_, hports, hpc, ?_⟩
  · rw [State.hl, hmain]
    exact mkWord_hiByte_loByte _
  · rw [State.reg, hmain]
    rfl
  · rw [State.f, hmain]
    exact ioBlockFlags_eq_flagByte _ _ _

end Sys2Proof.Machine

/-! SUPPORT. CPU control, and the returns that undo an acceptance (45_block_io_system.md R392-R401, 60_exceptions.md R434-R446); then
the statements. -/

namespace Sys2Proof.Machine

variable {s : State}

/-! ## Encodings -/

/-- ED 46 and the three other bytes that decode to IM 0 (R396). -/
theorem encodes_im0 {op : Byte} (h : op ∈ [(0x46 : Byte), 0x4E, 0x66, 0x6E]) : Encodes [0xED, op] 2 .im0 := by
  intro rest
  simp only [List.mem_cons, List.not_mem_nil, or_false] at h
  obtain rfl | rfl | rfl | rfl := h <;> rfl

/-- ED 56 and ED 76 (R397). -/
theorem encodes_im1 {op : Byte} (h : op ∈ [(0x56 : Byte), 0x76]) : Encodes [0xED, op] 2 .im1 := by
  intro rest
  simp only [List.mem_cons, List.not_mem_nil, or_false] at h
  obtain rfl | rfl := h <;> rfl

/-- ED 5E and ED 7E (R398). -/
theorem encodes_im2 {op : Byte} (h : op ∈ [(0x5E : Byte), 0x7E]) : Encodes [0xED, op] 2 .im2 := by
  intro rest
  simp only [List.mem_cons, List.not_mem_nil, or_false] at h
  obtain rfl | rfl := h <;> rfl

/-- The ED bytes without an instruction of their own, as ranges (R122). -/
theorem isEdHole_iff : ∀ op : Byte, isEdHole op = true ↔
    (op.toNat ≤ 0x3F ∨ op = 0x77 ∨ op = 0x7F ∨ (0x80 ≤ op.toNat ∧ op.toNat ≤ 0x9F)
      ∨ (0xA4 ≤ op.toNat ∧ op.toNat ≤ 0xA7) ∨ (0xAC ≤ op.toNat ∧ op.toNat ≤ 0xAF)
      ∨ (0xB4 ≤ op.toNat ∧ op.toNat ≤ 0xB7) ∨ (0xBC ≤ op.toNat ∧ op.toNat ≤ 0xBF) ∨ 0xC0 ≤ op.toNat) := by decide

/-! ## CPU control -/

theorem runs_withIm {i : Instr} {v : BitVec 2} (h : exec i s = done 8 (s.withIm v)) :
    ∃ t, Runs i s t 8 [.im] [] ∧ t.im = v := ⟨_, Runs.ofDone h rfl (Frame.withIm s v), rfl⟩

/-- DI and EI write one value to both flip-flops (R394, R395). -/
theorem runs_withIffs {i : Instr} {v : Bool} (h : exec i s = done 4 ((s.withIff1 v).withIff2 v)) :
    ∃ t, Runs i s t 4 [.iff1, .iff2] [] ∧ t.iff1 = v ∧ t.iff2 = v :=
  ⟨_, Runs.ofDone h rfl ((Frame.withIff1 s v).trans (Frame.withIff2 _ v)), rfl, rfl⟩

/-- Settles O53: each instruction is one write of a control register, or nothing. -/
theorem cpuControl : Obligations.CpuControl :=
  ⟨encodes_encode .nop rfl rfl, encodes_encode .halt rfl rfl, encodes_encode .di rfl rfl, encodes_encode .ei rfl rfl,
    fun _ => encodes_im0, fun _ => encodes_im1, fun _ => encodes_im2,
    fun op h => encodes_encode (.edNop op) ((isEdHole_iff op).2 h) rfl,
    fun s => ⟨runs_unchanged rfl, ⟨_, Runs.ofDone rfl rfl (Frame.withHalted s true), rfl⟩, runs_withIffs rfl,
      runs_withIffs rfl, runs_withIm rfl, runs_withIm rfl, runs_withIm rfl, fun _ => runs_unchanged rfl,
      fun _ _ => runs_unchanged rfl, fun _ => runs_unchanged rfl⟩⟩

/-! ## Returns from an interrupt -/

@[simp] theorem State.returnFromInterrupt_pc (s : State) : s.returnFromInterrupt.pc = s.top := rfl
@[simp] theorem State.returnFromInterrupt_sp (s : State) : s.returnFromInterrupt.sp = s.sp + 2 := rfl
@[simp] theorem State.returnFromInterrupt_iff1 (s : State) : s.returnFromInterrupt.iff1 = s.iff2 := rfl
@[simp] theorem State.returnFromInterrupt_iff2 (s : State) : s.returnFromInterrupt.iff2 = s.iff2 := rfl
@[simp] theorem State.returnFromInterrupt_main (s : State) : s.returnFromInterrupt.main = s.main := rfl

@[simp] theorem State.top_withPc (s : State) (w : Word) : (s.withPc w).top = s.top := rfl
@[simp] theorem State.top_tick (s : State) (n : Nat) : (s.tick n).top = s.top := rfl

/-- A return from a handler that was just entered at `s`: it takes back PC and SP, and gives IFF1 the value of IFF2 (R446). -/
theorem returnFromInterrupt_enterHandler (hs : s.mem.wf = true) (w : Word) (n : Nat) :
    let r := ((s.enterHandler.withPc w).tick n).returnFromInterrupt
    r.pc = s.pc ∧ r.sp = s.sp ∧ r.iff1 = s.iff2 ∧ r.iff2 = s.iff2 ∧ r.main = s.main := by
  simp [State.top_enterHandler hs]

/-- Settles O57: either acceptance enters a handler, from a state whose flip-flops it has cleared. -/
theorem returnsUndoAcceptance : Obligations.ReturnsUndoAcceptance := by
  intro s t u irq data hwf
  refine ⟨fun ht hu => ?_, fun hiff ht hu => ?_⟩
  · cases ht
    cases hu
    exact returnFromInterrupt_enterHandler (s := s.withIff1 false) hwf _ _
  · have hacc : acceptMaskable data s = .next t := by rwa [accept, hiff] at ht
    obtain ⟨-, -, rfl⟩ := acceptMaskable_next hacc
    cases hu
    obtain ⟨hpc, hsp, hiff1, -, hmain⟩ :=
      returnFromInterrupt_enterHandler (s := (s.withIff1 false).withIff2 false) hwf (s.maskableEntry.vector data).1
        (s.maskableEntry.vector data).2
    exact ⟨hpc, hsp, hiff1, hmain⟩

end Sys2Proof.Machine

/-! SUPPORT. LDIR and LDDR as a run of steps: what one step does, what the elements still to come leave of that, and the run by
induction on the count (45_block_io_system.md R371, R373, R402, R403); then the statement. -/

namespace Sys2Proof.Machine

variable {i : Instr} {δ : Word} {op : Byte} {n : Nat} {s t u : State}

/-! ## The addresses of a block -/

/-- The address of element `k` of a block that starts at `a`, as R403 counts it. -/
def elementAt (a δ : Word) (k : Nat) : Word := a + BitVec.ofNat 16 k * δ

@[simp] theorem elementAt_zero (a δ : Word) : elementAt a δ 0 = a := by
  rw [elementAt, BitVec.zero_mul, BitVec.add_zero]

theorem elementAt_succ (a δ : Word) (k : Nat) : elementAt a δ (k + 1) = elementAt (a + δ) δ k := by
  rw [elementAt, elementAt, Nat.add_comm, BitVec.ofNat_add, BitVec.add_mul, BitVec.one_mul, BitVec.add_assoc]

theorem elementAt_toNat (a w δ : Word) : elementAt a δ w.toNat = a + w * δ := by
  rw [elementAt, BitVec.ofNat_toNat, BitVec.setWidth_eq]

/-- A block that is shorter than the address space does not come back to where it started. -/
theorem ne_elementAt_add (hδ : δ = 1 ∨ δ = -1) (a : Word) {k : Nat} (hk : k < 65535) : a ≠ elementAt (a + δ) δ k := by
  obtain rfl | rfl := hδ
  · rw [elementAt, BitVec.ofNat_eq_ofNat, BitVec.mul_one]
    exact ne_add_one_add_ofNat a hk
  · have hneg : BitVec.ofNat 16 k * (-1 : Word) = -BitVec.ofNat 16 k := by
      rw [BitVec.ofNat_eq_ofNat, BitVec.mul_neg, BitVec.mul_one]
    rw [elementAt, hneg]
    bv_omega

/-! ## One step -/

/-- What one step of LDIR or LDDR does: the flags, and what no element changes, left aside. -/
structure BlockMoveStep (δ : Word) (s t : State) : Prop where
  bc : t.bc = s.bc - 1
  pc : t.pc = if s.bc ≠ 1 then s.pc else s.pc + 2
  cycles : t.cycles = s.cycles + if s.bc ≠ 1 then 21 else 16
  hl : t.hl = s.hl + δ
  de : t.de = s.de + δ
  rlo : t.rlo = s.rlo + 2
  throttle : t.throttle = s.throttle
  halted : t.halted = s.halted
  mem : t.mem = (s.writeByte s.de (s.readByte s.hl)).mem

theorem BlockMoveStep.wf (h : BlockMoveStep δ s t) (hs : s.mem.wf = true) : t.mem.wf = true := by
  rw [h.mem]
  exact State.writeByte_wf _ _ hs

theorem BlockMoveStep.readByte_de (h : BlockMoveStep δ s t) (hs : s.mem.wf = true) : t.readByte s.de = s.readByte s.hl := by
  rw [State.readByte, h.mem]
  exact State.readByte_writeByte_same _ _ hs

theorem BlockMoveStep.readByte_other (h : BlockMoveStep δ s t) {a : Word} (ha : a ≠ s.de) : t.readByte a = s.readByte a := by
  rw [State.readByte, h.mem]
  exact State.readByte_writeByte_other s _ ha

/-- LDIR or LDDR stands at PC with `n` elements to go, canonical memory, and nothing to disturb it: the core is not throttled or
halted, and none of the bytes it writes is one of its own two. -/
structure BlockMoveReady (δ : Word) (op : Byte) (n : Nat) (s : State) : Prop where
  count : s.bc.toNat = n
  wf : s.mem.wf = true
  unthrottled : s.throttle < 0
  running : s.halted = false
  prefixByte : s.readByte s.pc = 0xED
  opcode : s.readByte (s.pc + 1) = op
  apart : ∀ k < n, elementAt s.de δ k ≠ s.pc ∧ elementAt s.de δ k ≠ s.pc + 1

theorem BlockMoveReady.bc_ne_one (h : BlockMoveReady δ op (n + 2) s) : s.bc ≠ 1 := fun e => by simpa [e] using h.count

/-- LDIR and LDDR are the two repeating transfers, and step by 1 or by -1. -/
theorem isBlockTransfer_of_isBlockMove (h : (i, δ, op) ∈ [(Instr.ldir, (1 : Word), (0xB0 : Byte)), (.lddr, -1, 0xB8)]) :
    Encodes [0xED, op] 2 i
      ∧ (i, δ, true) ∈ [(Instr.ldi, (1 : Word), false), (.ldir, 1, true), (.ldd, -1, false), (.lddr, -1, true)]
      ∧ (δ = 1 ∨ δ = -1) := by
  simp only [List.mem_cons, List.not_mem_nil, or_false, Prod.mk.injEq] at h
  obtain ⟨rfl, rfl, rfl⟩ | ⟨rfl, rfl, rfl⟩ := h
  · exact ⟨encodes_encode .ldir rfl rfl, by decide, .inl rfl⟩
  · exact ⟨encodes_encode .lddr rfl rfl, by decide, .inr rfl⟩

theorem State.useThrottle_of_neg (h : s.throttle < 0) : s.useThrottle = s := if_neg (by omega)

/-- A step fetches the instruction and moves one byte (R371, R373). -/
theorem step_blockMove (h : (i, δ, op) ∈ [(Instr.ldir, (1 : Word), (0xB0 : Byte)), (.lddr, -1, 0xB8)])
    (hs : BlockMoveReady δ op n s) : ∃ t, step s = .next t ∧ BlockMoveStep δ s t := by
  obtain ⟨hencodes, htransfer, -⟩ := isBlockTransfer_of_isBlockMove h
  have hstep := step_of_encodes_ed (Int.ne_of_lt hs.unthrottled) hs.running hs.prefixByte hs.opcode hencodes
  rw [State.useThrottle_of_neg hs.unthrottled] at hstep
  obtain ⟨t, ⟨hexec, hcycles, hparts, -⟩, hmem, hhl, hde, hbc, hpc, -⟩ := runs_blockTransfer htransfer (s.fetched 2 2)
  have hrewind : (s.fetched 2 2).pc - 2 = s.pc := BitVec.add_sub_cancel s.pc 2
  simp only [true_and, hrewind] at hcycles hpc
  exact ⟨t, hstep.trans hexec, hbc, hpc, hcycles, hhl, hde, hparts .rlo (by decide), hparts .throttle (by decide),
    hparts .halted (by decide), hmem⟩

/-! ## The elements still to come -/

/-- The elements after the first are apart from the instruction's own bytes too, and the first left these alone. -/
theorem BlockMoveStep.ready (h : BlockMoveStep δ s t) (hs : BlockMoveReady δ op (n + 2) s) : BlockMoveReady δ op (n + 1) t := by
  have hbc := hs.bc_ne_one
  have hpc : t.pc = s.pc := by rw [h.pc, if_pos hbc]
  obtain ⟨hprefix, hopcode⟩ := hs.apart 0 (Nat.succ_pos _)
  rw [elementAt_zero] at hprefix hopcode
  refine ⟨?_, h.wf hs.wf, h.throttle ▸ hs.unthrottled, h.halted.trans hs.running, ?_, ?_, fun k hk => ?_⟩
  · have hcount := hs.count
    rw [h.bc]
    bv_omega
  · rw [hpc, h.readByte_other hprefix.symm, hs.prefixByte]
  · rw [hpc, h.readByte_other hopcode.symm, hs.opcode]
  · rw [hpc, h.de, ← elementAt_succ]
    exact hs.apart (k + 1) (by omega)

/-- `t` is `s` but for the `n` bytes of the block, and where none of these is one still to be read, they are copies (R403). -/
structure BytesMoved (δ : Word) (n : Nat) (s t : State) : Prop where
  kept : ∀ a, (∀ k < n, a ≠ elementAt s.de δ k) → t.readByte a = s.readByte a
  copied : (∀ j < n, ∀ k < j, elementAt s.hl δ j ≠ elementAt s.de δ k) →
    ∀ k < n, t.readByte (elementAt s.de δ k) = s.readByte (elementAt s.hl δ k)

theorem BytesMoved.zero (s : State) : BytesMoved δ 0 s s :=
  ⟨fun _ _ => rfl, fun _ _ hk => absurd hk (Nat.not_lt_zero _)⟩

/-- One element, then the others: they leave the first copy alone, and the first leaves alone what they read. -/
theorem BytesMoved.step (hδ : δ = 1 ∨ δ = -1) (hn : n < 65535) (hs : s.mem.wf = true) (h : BlockMoveStep δ s u)
    (hu : BytesMoved δ n u t) : BytesMoved δ (n + 1) s t := by
  obtain ⟨hkept, hcopied⟩ := hu
  rw [h.de] at hkept hcopied
  rw [h.hl] at hcopied
  constructor
  · intro a ha
    have hfirst : a ≠ s.de := by simpa using ha 0 (Nat.succ_pos n)
    have hrest : ∀ k < n, a ≠ elementAt (s.de + δ) δ k := fun k hk => by
      rw [← elementAt_succ]
      exact ha (k + 1) (Nat.succ_lt_succ hk)
    rw [hkept a hrest, h.readByte_other hfirst]
  · intro hread k hk
    cases k with
    | zero =>
      have hrest : ∀ k < n, s.de ≠ elementAt (s.de + δ) δ k := fun k hk => ne_elementAt_add hδ s.de (Nat.lt_trans hk hn)
      rw [elementAt_zero, elementAt_zero, hkept s.de hrest, h.readByte_de hs]
    | succ k =>
      have hrest : ∀ j < n, ∀ k < j, elementAt (s.hl + δ) δ j ≠ elementAt (s.de + δ) δ k := fun j hj k hk => by
        rw [← elementAt_succ, ← elementAt_succ]
        exact hread (j + 1) (Nat.succ_lt_succ hj) (k + 1) (Nat.succ_lt_succ hk)
      have hfirst : elementAt s.hl δ (k + 1) ≠ s.de := by
        simpa using hread (k + 1) hk 0 (Nat.succ_pos k)
      rw [elementAt_succ, hcopied hrest k (Nat.lt_of_succ_lt_succ hk), ← elementAt_succ, h.readByte_other hfirst]

/-! ## The run -/

/-- What `n` steps of LDIR or LDDR do, from BC = n (R403). -/
structure BlockMoved (δ : Word) (n : Nat) (s t : State) : Prop where
  bc : t.bc = 0
  pc : t.pc = s.pc + 2
  cycles : t.cycles = s.cycles + 21 * (n - 1) + 16
  hl : t.hl = elementAt s.hl δ n
  de : t.de = elementAt s.de δ n
  rlo : t.rlo = s.rlo + BitVec.ofNat 7 (2 * n)
  bytes : BytesMoved δ n s t

theorem elementAt_one (a δ : Word) : elementAt a δ 1 = a + δ := by rw [elementAt_succ, elementAt_zero]

/-- The last element ends the run. -/
theorem BlockMoved.last (hδ : δ = 1 ∨ δ = -1) (hs : BlockMoveReady δ op 1 s) (h : BlockMoveStep δ s t) :
    BlockMoved δ 1 s t := by
  have hbc : s.bc = 1 := BitVec.eq_of_toNat_eq hs.count
  have hpc := h.pc
  have hcycles := h.cycles
  rw [if_neg (Decidable.not_not.2 hbc)] at hpc hcycles
  refine ⟨?_, hpc, hcycles, h.hl.trans (elementAt_one _ _).symm, h.de.trans (elementAt_one _ _).symm, h.rlo,
    .step hδ (by decide) hs.wf h (.zero t)⟩
  rw [h.bc, hbc]
  rfl

/-- An element before the last, then the others. -/
theorem BlockMoved.step (hδ : δ = 1 ∨ δ = -1) (hs : BlockMoveReady δ op (n + 2) s) (h : BlockMoveStep δ s u)
    (hu : BlockMoved δ (n + 1) u t) : BlockMoved δ (n + 2) s t := by
  have hlt := s.bc.isLt
  rw [hs.count] at hlt
  have hbc := hs.bc_ne_one
  have hpc := h.pc
  have hcycles := h.cycles
  rw [if_pos hbc] at hpc hcycles
  refine ⟨hu.bc, ?_, ?_, ?_, ?_, ?_, .step hδ (by omega) hs.wf h hu.bytes⟩
  · rw [hu.pc, hpc]
  · rw [hu.cycles, hcycles]
    omega
  · rw [hu.hl, h.hl, ← elementAt_succ]
  · rw [hu.de, h.de, ← elementAt_succ]
  · rw [hu.rlo, h.rlo]
    bv_omega

theorem stepTimes_succ (h : step s = .next u) (n : Nat) : stepTimes (n + 1) s = stepTimes n u := by rw [stepTimes, h]

/-- The run, by induction on the elements after the first. -/
theorem stepTimes_blockMove (h : (i, δ, op) ∈ [(Instr.ldir, (1 : Word), (0xB0 : Byte)), (.lddr, -1, 0xB8)])
    (hs : BlockMoveReady δ op (n + 1) s) : ∃ t, stepTimes (n + 1) s = .next t ∧ BlockMoved δ (n + 1) s t := by
  obtain ⟨-, -, hδ⟩ := isBlockTransfer_of_isBlockMove h
  induction n generalizing s with
  | zero =>
    obtain ⟨t, hstep, ht⟩ := step_blockMove h hs
    exact ⟨t, stepTimes_succ hstep 0, .last hδ hs ht⟩
  | succ n ih =>
    obtain ⟨u, hstep, hu⟩ := step_blockMove h hs
    obtain ⟨t, hrun, ht⟩ := ih (hu.ready hs)
    exact ⟨t, (stepTimes_succ hstep (n + 1)).trans hrun, .step hδ hs hu ht⟩

/-- Settles O51: the hypotheses make the machine ready for BC elements. -/
theorem blockMoveRunsNSteps : Obligations.BlockMoveRunsNSteps := by
  intro s i δ op h hwf hthrottle hhalted hprefix hopcode hbc hapart
  obtain ⟨n, hn⟩ : ∃ n, s.bc.toNat = n + 1 := Nat.exists_eq_succ_of_ne_zero (toNat_inj_ne (b := 0) hbc)
  rw [hn] at hapart
  obtain ⟨t, hrun, ht⟩ := stepTimes_blockMove h ⟨hn, hwf, hthrottle, hhalted, hprefix, hopcode, hapart⟩
  rw [← hn] at hrun ht
  exact ⟨t, hrun, ht.bc, ht.pc, ht.cycles, ht.hl.trans (elementAt_toNat _ _ _), ht.de.trans (elementAt_toNat _ _ _), ht.rlo,
    ht.bytes.kept, ht.bytes.copied⟩

end Sys2Proof.Machine

/-! SUPPORT. What a delivery does: which of the two acceptances it is, how each enters its handler, and where it vectors
(60_exceptions.md R433-R442, R445); then the statements. -/

namespace Sys2Proof.Machine

variable {s u : State} {data : Byte}

/-! ## Which acceptance a delivery is (R433) -/

/-- A maskable delivery is accepted while IFF1 = 1. -/
theorem accept_irq_of_iff1 (h : s.iff1 = true) : accept false true data s = acceptMaskable data s := by
  rw [accept, h]
  rfl

/-- A maskable delivery is dropped while IFF1 = 0 (R445). -/
theorem accept_irq_of_not_iff1 (h : s.iff1 = false) : accept false true data s = .next s := by
  rw [accept, h]
  rfl

/-! ## The faults -/

theorem acceptMaskable_im3 (h : s.im = 3) : acceptMaskable data s = .fault .badIm := if_pos h

theorem acceptMaskable_im0_of_not_rst (h : s.im = 0) (hdata : data &&& 0xC7 ≠ 0xC7) :
    acceptMaskable data s = .fault (.im0NotRst data) := by
  rw [acceptMaskable, if_neg (by rw [h]; decide), if_pos ⟨h, hdata⟩]

/-! ## Entering the handler -/

/-- Both acceptances end by writing PC and counting their cost. -/
theorem Frame.vectored {c : List Part} {m : List Word} (h : Frame c m s u) (w : Word) (n : Nat) :
    Frame (c ++ [.pc]) m s ((u.withPc w).tick n) := by
  simpa using (h.trans (Frame.withPc u w)).trans (Frame.tick _ n)

/-- The bytes pushed are still there. -/
theorem Holds.vectored {a : Word} {v : Byte} (h : Holds s u a v) (w : Word) (n : Nat) :
    Holds s ((u.withPc w).tick n) a v := h

/-- The legal modes take 13 T-states, or 19 for the table read of IM 2 (R434). -/
theorem State.vector_cost (h : s.im ≠ 3) : (s.vector data).2 = if s.im = 2 then 19 else 13 := by
  have hmode : ∀ im : BitVec 2, im ≠ 3 → im = 0 ∨ im = 1 ∨ im = 2 := by decide
  obtain him | him | him := hmode s.im h
  · rw [State.vector_im0 data him, him]
    rfl
  · rw [State.vector_im1 data him, him]
    rfl
  · rw [State.vector_im2 data him, him]
    rfl

/-- The restart address in an RST opcode `11ttt111`: what its fixed bits leave (R350, R435). -/
theorem toNat_restart_of_rst : ∀ data : Byte, data &&& 0xC7 = 0xC7 →
    (BitVec.setWidth 16 (data &&& 0x38)).toNat = data.toNat - 0xC7 := by decide

/-! ## The statements -/

/-- Settles O54: the handler is entered from the state with IFF1 cleared. -/
theorem nonMaskableAcceptance : Obligations.NonMaskableAcceptance := by
  intro s irq data
  have hframe := (Frame.withIff1 s false).trans (Frame.enterHandler (s.withIff1 false))
  have hlow : Holds s _ _ _ := State.readByte_enterHandler_low (s := s.withIff1 false)
  have hhigh : Holds s _ _ _ := State.readByte_enterHandler_high (s := s.withIff1 false)
  exact ⟨_, rfl, by simp, (hframe.vectored Config.nmiVector 11).mono (by simp) (by simp), rfl, by simp, by simp, by simp,
    by simp, by simp, hlow.vectored _ _, hhigh.vectored _ _⟩

/-- Settles O55: the handler is entered from the state with both flip-flops cleared, then the mode picks the vector. -/
theorem maskableAcceptance : Obligations.MaskableAcceptance := by
  intro s data hiff him hrst
  have hmode := State.maskableEntry_im s
  have hcost := State.vector_cost (s := s.maskableEntry) (data := data) (by rwa [hmode])
  rw [hmode] at hcost
  refine ⟨_, (accept_irq_of_iff1 hiff).trans (acceptMaskable_done him hrst), by simp [hcost],
    ((Frame.maskableEntry s).vectored _ _).mono (by simp) (by simp), by simp, by simp, by simp, by simp, by simp,
    Holds.vectored State.readByte_maskableEntry_low _ _, Holds.vectored State.readByte_maskableEntry_high _ _,
    fun h0 => ?_, fun h1 => ?_, fun h2 => ?_⟩
  · rw [State.tick_pc, State.withPc_pc, State.vector_im0 data (hmode.trans h0)]
    exact toNat_restart_of_rst data (hrst h0)
  · rw [State.tick_pc, State.withPc_pc, State.vector_im1 data (hmode.trans h1)]
  · rw [State.tick_pc, State.withPc_pc, State.vector_im2 data (hmode.trans h2), State.maskableEntry_i]
    rfl

/-- Settles O56: an armed delivery is an acceptance, which may fault; the others change nothing. -/
theorem acceptanceFaultsAndDrops : Obligations.AcceptanceFaultsAndDrops := fun _ _ =>
  ⟨fun hiff him => (accept_irq_of_iff1 hiff).trans (acceptMaskable_im3 him),
    fun hiff him hdata => (accept_irq_of_iff1 hiff).trans (acceptMaskable_im0_of_not_rst him hdata),
    accept_irq_of_not_iff1, rfl, rfl⟩

end Sys2Proof.Machine

/-! SUPPORT. Time: no instruction reads the cycle counter or the horizon, each counts its own cost once, and no other part of the
step reads them (10_state.md R44, 70_reset_and_hazards.md R480, R481, R484, R485); then the statements. -/

namespace Sys2Proof.Machine

/-! ## The time of a state -/

/-- The state at another time: the cycle counter and the horizon are replaced. -/
def State.atTime (s : State) (c h : Nat) : State := (s.withCycles c).withHorizon h

theorem State.atTime_self (s : State) : s.atTime s.cycles s.horizon = s := rfl

theorem State.atTime_tick (s : State) (c h n : Nat) : (s.atTime c h).tick n = (s.tick n).atTime (c + n) h := rfl

/-- An operation that neither reads nor moves the time: it does the same at every time and leaves the time as it was. -/
def TimeBlind (g : State → State) : Prop := ∀ s c h, g (s.atTime c h) = (g s).atTime c h

/-- A meaning that does not read the time: at every time it is the same operation, which costs 4 to 23 T-states. -/
def Priced (f : State → Result) : Prop :=
  ∀ s : State, ∃ (cost : Nat) (u : State), (4 ≤ cost ∧ cost ≤ 23) ∧ ∀ c h, f (s.atTime c h) = done cost (u.atTime c h)

section
variable {f f' : State → Result} {g : State → State} {s t : State}

/-! ## What a priced meaning answers -/

/-- The answer is the operation at the time of the state, and then its cost. -/
theorem Priced.next (hf : Priced f) (h : f s = .next t) :
    ∃ (cost : Nat) (u : State), (4 ≤ cost ∧ cost ≤ 23) ∧ t = (u.atTime s.cycles s.horizon).tick cost
      ∧ ∀ c h, f (s.atTime c h) = done cost (u.atTime c h) := by
  obtain ⟨cost, u, hcost, hu⟩ := hf s
  have hs := hu s.cycles s.horizon
  rw [State.atTime_self] at hs
  exact ⟨cost, u, hcost, Host.Outcome.next.inj (h.symm.trans hs), hu⟩

theorem Priced.cycles (hf : Priced f) (h : f s = .next t) : s.cycles + 4 ≤ t.cycles ∧ t.cycles ≤ s.cycles + 23 := by
  obtain ⟨cost, u, ⟨hlo, hhi⟩, rfl, -⟩ := hf.next h
  exact ⟨Nat.add_le_add_left hlo s.cycles, Nat.add_le_add_left hhi s.cycles⟩

/-- From a state whose counter is higher by `c` the answer is the same, its counter higher by `c`. -/
theorem Priced.later (hf : Priced f) (h : f s = .next t) (c hz : Nat) :
    f (s.atTime (s.cycles + c) hz) = .next (t.atTime (t.cycles + c) hz) := by
  obtain ⟨cost, u, -, rfl, hu⟩ := hf.next h
  rw [hu, done, State.atTime_tick, Nat.add_right_comm]
  rfl

/-! ## Building priced meanings -/

theorem Priced.done {cost : Nat} (hg : TimeBlind g) (hcost : 4 ≤ cost ∧ cost ≤ 23) :
    Priced (fun s => done cost (g s)) :=
  fun s => ⟨cost, g s, hcost, fun c h => congrArg (Machine.done cost) (hg s c h)⟩

/-- A choice that does not read the time. -/
theorem Priced.ite {b : State → Prop} [DecidablePred b] (hb : ∀ s c h, b (s.atTime c h) ↔ b s) (hf : Priced f)
    (hf' : Priced f') : Priced (fun s => if b s then f s else f' s) := by
  intro s
  by_cases hs : b s
  · obtain ⟨cost, u, hcost, hu⟩ := hf s
    exact ⟨cost, u, hcost, fun c h => (if_pos ((hb s c h).2 hs)).trans (hu c h)⟩
  · obtain ⟨cost, u, hcost, hu⟩ := hf' s
    exact ⟨cost, u, hcost, fun c h => (if_neg (mt (hb s c h).1 hs)).trans (hu c h)⟩

/-- A block instruction that may go on costs 21 or 16 (R402). -/
theorem Priced.finishBlock {again : State → Bool} (ha : ∀ s c h, again (s.atTime c h) = again s) (hg : TimeBlind g) :
    Priced (fun s => finishBlock (again s) (g s)) :=
  .ite (fun s c h => by rw [ha s c h]) (.done (fun s c h => by rw [hg s c h]; rfl) (by decide)) (.done hg (by decide))

end

/-! ## Operations at another time -/

theorem State.setIdx_atTime (s : State) (x : Idx) (v : Word) (c h : Nat) :
    (s.atTime c h).setIdx x v = (s.setIdx x v).atTime c h := by cases x <;> rfl

theorem State.setPair_atTime (s : State) (rp : RegPair) (v : Word) (c h : Nat) :
    (s.atTime c h).setPair rp v = (s.setPair rp v).atTime c h := by cases rp <;> rfl

theorem State.setStackPair_atTime (s : State) (qq : StackPair) (v : Word) (c h : Nat) :
    (s.atTime c h).setStackPair qq v = (s.setStackPair qq v).atTime c h := by cases qq <;> rfl

theorem State.writeOp_atTime (s : State) (o : Operand) (v : Byte) (c h : Nat) :
    (s.atTime c h).writeOp o v = (s.writeOp o v).atTime c h := by
  cases o with
  | reg | mem => rfl
  | xh | xl => exact State.setIdx_atTime s _ _ c h

theorem State.copyTo_atTime (s : State) (copy : Option Reg8) (v : Byte) (c h : Nat) :
    (s.atTime c h).copyTo copy v = (s.copyTo copy v).atTime c h := by cases copy <;> rfl

theorem State.incOp_atTime (s : State) (o : Operand) (c h : Nat) :
    (s.atTime c h).incOp o = (s.incOp o).atTime c h :=
  State.writeOp_atTime (s.setF (inc8 (s.readOp o) s.f).2) o _ c h

theorem State.decOp_atTime (s : State) (o : Operand) (c h : Nat) :
    (s.atTime c h).decOp o = (s.decOp o).atTime c h :=
  State.writeOp_atTime (s.setF (dec8 (s.readOp o) s.f).2) o _ c h

theorem State.rotOp_atTime (s : State) (op : RotOp) (o : Operand) (c h : Nat) :
    (s.atTime c h).rotOp op o = (s.rotOp op o).atTime c h :=
  State.writeOp_atTime (s.setF (rot op (s.readOp o) s.carry).2) o _ c h

theorem State.xcRot_atTime (s : State) (op : RotOp) (ea : Word) (copy : Option Reg8) (c h : Nat) :
    (s.atTime c h).xcRot op ea copy = (s.xcRot op ea copy).atTime c h :=
  State.copyTo_atTime ((s.setF (rot op (s.readByte ea) s.carry).2).writeByte ea _) copy _ c h

theorem State.xcRes_atTime (s : State) (b : Index8) (ea : Word) (copy : Option Reg8) (c h : Nat) :
    (s.atTime c h).xcRes b ea copy = (s.xcRes b ea copy).atTime c h :=
  State.copyTo_atTime (s.writeByte ea _) copy _ c h

theorem State.xcSet_atTime (s : State) (b : Index8) (ea : Word) (copy : Option Reg8) (c h : Nat) :
    (s.atTime c h).xcSet b ea copy = (s.xcSet b ea copy).atTime c h :=
  State.copyTo_atTime (s.writeByte ea _) copy _ c h

theorem State.blockLd_atTime (s : State) (δ : Word) (c h : Nat) :
    (s.atTime c h).blockLd δ = (s.blockLd δ).atTime c h := rfl

theorem State.blockCp_atTime (s : State) (δ : Word) (c h : Nat) :
    (s.atTime c h).blockCp δ = (s.blockCp δ).atTime c h := rfl

theorem State.blockIn_atTime (s : State) (δ : Word) (γ : Byte) (c h : Nat) :
    (s.atTime c h).blockIn δ γ = (s.blockIn δ γ).atTime c h := rfl

theorem State.blockOut_atTime (s : State) (δ : Word) (c h : Nat) :
    (s.atTime c h).blockOut δ = (s.blockOut δ).atTime c h := rfl

/-! ## Instructions -/

/-- The row that points to the indexed bit space does one of its four operations (R312). -/
theorem priced_execIndexedBitSpace (x : Idx) (d op : Byte) : Priced (execIndexedBitSpace x d op) := by
  unfold execIndexedBitSpace
  split
  · exact .done (fun _ _ _ => rfl) (by decide)
  · exact .done (fun s c h => State.xcRot_atTime s _ _ _ c h) (by decide)
  · exact .done (fun s c h => State.xcRes_atTime s _ _ _ c h) (by decide)
  · exact .done (fun s c h => State.xcSet_atTime s _ _ _ c h) (by decide)

/-- Every instruction is priced. An operation with a lemma above commutes with the time by it, a condition does not read the time,
and the other operations only read and write other fields. -/
theorem priced_exec (i : Instr) : Priced (exec i) := by
  cases i with
  -- index registers and pairs
  | incX | decX | ldXNn | ldXMNn | ldXHN | ldXLN | ldXHR | ldXLR =>
    exact .done (fun s c h => State.setIdx_atTime s _ _ c h) (by decide)
  | addXRp => exact .done (fun s c h => congrArg (State.setF · _) (State.setIdx_atTime s _ _ c h)) (by decide)
  | popX => exact .done (fun s c h => State.setIdx_atTime s.dropTop _ _ c h) (by decide)
  | exMSpX => exact .done (fun s c h => State.setIdx_atTime (s.writeWord _ _) _ _ c h) (by decide)
  | incRp | decRp | ldRpNn | ldRpMNn => exact .done (fun s c h => State.setPair_atTime s _ _ c h) (by decide)
  | popQq => exact .done (fun s c h => State.setStackPair_atTime s.dropTop _ _ c h) (by decide)
  -- operands and the copies of the indexed bit space
  | ldRXH | ldRXL | setR | setMHl | resR | resMHl =>
    exact .done (fun s c h => State.writeOp_atTime s _ _ c h) (by decide)
  | incR | incMHl | incXd | incXH | incXL => exact .done (fun s c h => State.incOp_atTime s _ c h) (by decide)
  | decR | decMHl | decXd | decXH | decXL => exact .done (fun s c h => State.decOp_atTime s _ c h) (by decide)
  | rlcR | rlcMHl | rrcR | rrcMHl | rlR | rlMHl | rrR | rrMHl
  | slaR | slaMHl | sraR | sraMHl | sllR | sllMHl | srlR | srlMHl =>
    exact .done (fun s c h => State.rotOp_atTime s _ _ c h) (by decide)
  | rlcXdR | rrcXdR | rlXdR | rrXdR | slaXdR | sraXdR | sllXdR | srlXdR =>
    exact .done (fun s c h => State.xcRot_atTime s _ _ _ c h) (by decide)
  | resXdR => exact .done (fun s c h => State.xcRes_atTime s _ _ _ c h) (by decide)
  | setXdR => exact .done (fun s c h => State.xcSet_atTime s _ _ _ c h) (by decide)
  | indexedBitSpace x d op => exact priced_execIndexedBitSpace x d op
  -- transfers of control that may not be taken
  | jpCcNn cc nn =>
    have hjump : TimeBlind fun s => if s.cond cc then s.withPc nn else s := fun s c h =>
      (apply_ite (State.atTime · c h) (s.cond cc = true) (s.withPc nn) s).symm
    exact .done hjump (by decide)
  | jrCc | djnz | callCcNn | retCc =>
    exact .ite (fun _ _ _ => Iff.rfl) (.done (fun _ _ _ => rfl) (by decide)) (.done (fun _ _ _ => rfl) (by decide))
  -- block instructions
  | ldi | ldd => exact .done (fun s c h => State.blockLd_atTime s _ c h) (by decide)
  | ldir | lddr => exact .finishBlock (fun _ _ _ => rfl) (fun s c h => State.blockLd_atTime s _ c h)
  | cpi | cpd => exact .done (fun s c h => State.blockCp_atTime s _ c h) (by decide)
  | cpir | cpdr => exact .finishBlock (fun _ _ _ => rfl) (fun s c h => State.blockCp_atTime s _ c h)
  | ini | ind => exact .done (fun s c h => State.blockIn_atTime s _ _ c h) (by decide)
  | inir | indr => exact .finishBlock (fun _ _ _ => rfl) (fun s c h => State.blockIn_atTime s _ _ c h)
  | outi | outd => exact .done (fun s c h => State.blockOut_atTime s _ c h) (by decide)
  | otir | otdr => exact .finishBlock (fun _ _ _ => rfl) (fun s c h => State.blockOut_atTime s _ c h)
  -- the others
  | _ => exact .done (fun _ _ _ => rfl) (by decide)

/-! ## The step before its instruction -/

theorem State.useThrottle_atTime (s : State) (c h : Nat) : (s.atTime c h).useThrottle = s.useThrottle.atTime c h := by
  rw [State.useThrottle_eq, State.useThrottle_eq]
  rfl

theorem State.cycles_useThrottle (s : State) : s.useThrottle.cycles = s.cycles := by rw [State.useThrottle_eq]; rfl

theorem State.cycles_fetched (s : State) (size fetches : Nat) : (s.fetched size fetches).cycles = s.cycles := rfl

/-- The part of a step before its instruction is the same at every time. -/
theorem State.fetched_useThrottle_atTime (s : State) (c h size fetches : Nat) :
    (s.atTime c h).useThrottle.fetched size fetches = (s.useThrottle.fetched size fetches).atTime c h := by
  rw [State.useThrottle_atTime]
  rfl

/-! ## The statements -/

/-- Settles O13, from the price of the instruction and the table of the parts it may change. -/
theorem everyInstructionCosts4To23 : Obligations.EveryInstructionCosts4To23 := by
  intro i s t h
  obtain ⟨hlo, hhi⟩ := (priced_exec i).cycles h
  exact ⟨hlo, hhi, exec_keeps (p := .throttle) h rfl, exec_keeps (p := .horizon) h rfl, exec_keeps (p := .hooks) h rfl⟩

/-- Settles O12, by the three ways a step begins; the last is the instruction's price. -/
theorem cyclesAndHorizonAreNotRead : Obligations.CyclesAndHorizonAreNotRead := by
  intro s t c h hstep
  show step (s.atTime (s.cycles + c) h) = .next (t.atTime (t.cycles + c) h)
  by_cases ht : s.throttle = 0
  · rw [step, State.begin_throttled ht] at hstep
    cases hstep
    rw [step, State.begin_throttled (s := s.atTime (s.cycles + c) h) ht]
  cases hh : s.halted with
  | true =>
    rw [step, State.begin_halted ht hh] at hstep
    cases hstep
    rw [step, State.begin_halted (s := s.atTime (s.cycles + c) h) ht hh, State.useThrottle_atTime, State.atTime_tick,
      State.tick_cycles, State.cycles_useThrottle, Nat.add_right_comm]
  | false =>
    obtain ⟨i, f, hd, -⟩ := decode_eq_ok (s.readByte s.pc) (s.readByte (s.pc + 1)) (s.readByte (s.pc + 2))
      (s.readByte (s.pc + 3)) []
    rw [step, State.begin_running ht hh hd] at hstep
    rw [step, State.begin_running (s := s.atTime (s.cycles + c) h) ht hh hd, State.fetched_useThrottle_atTime]
    have hlater := (priced_exec _).later hstep c h
    rwa [State.cycles_fetched, State.cycles_useThrottle] at hlater

end Sys2Proof.Machine
